-- ==== Sys2Proof/Word.lean ====
section
/-! DEFINITION. The word types of the block: what the spec treats as bits (00_scope.md R11, 30_encoding.md R51, R53). -/

namespace Sys2Proof

/-- A word of the command port and of the register interface: 32 bits (R11). -/
abbrev Word := BitVec 32

/-- A raw sample code, as the window's slots hold it: 24-bit two's complement (R9, R20, R53). -/
abbrev Sample := BitVec 24

/-- A frequency in millihertz: 24 bits, unsigned (R18, R52). -/
abbrev MilliHz := BitVec 24

/-- A byte offset into the 64-byte register window: 6 bits (R36). -/
abbrev Offset := BitVec 6

/-- One byte lane of a host bus (R40). -/
abbrev Byte := BitVec 8

end Sys2Proof
end

