-- ==== Sys2Proof/Config.lean ====
section
/-! DEFINITION. What an instance of the block fixes (00_scope.md R5, R8) and the model's one free value. -/

namespace Sys2Proof

/-- The six instantiation parameters (R5), constant for the life of an instance. -/
structure Params where
  /-- `P_N`, the window length. -/
  n : Nat
  /-- `P_TS`, `stableErrorThreshold`, raw counts. -/
  ts : Nat
  /-- `P_TR`, `recheckErrorThreshold`, raw counts. -/
  tr : Nat
  /-- `P_TA`, `recheckAcceptThreshold`, raw counts. -/
  ta : Nat
  /-- `P_RECHECK_EN`, whether the Rechecking mode exists. -/
  recheckEn : Bool
  /-- `P_MAXRATE_MHZ`, the maximum sample rate in millihertz. -/
  maxRate : Nat
  deriving DecidableEq, Repr

/-- The legal values of R5's table: an instance outside them is not built. -/
abbrev Params.Legal (p : Params) : Prop :=
  p.n % 2 = 1 ∧ 3 ≤ p.n ∧ p.n ≤ 31 ∧
  p.ts < 2 ^ 32 ∧ p.tr < 2 ^ 32 ∧ p.ta < 2 ^ 32 ∧
  1 ≤ p.maxRate ∧ p.maxRate ≤ 2 ^ 24 - 1

namespace Config

/-- `VARIANT_BB`, the bit-banged device's instance (R8). -/
def variantBB : Params :=
  { n := 11, ts := 250, tr := 10000, ta := 500, recheckEn := true, maxRate := 2000 }

/-- `VARIANT_I2C`, the I2C device's instance (R8). Its rate cap is the OPEN parameter `P_SPS_MHZ`
(92_eei_decisions.md D28), an argument here. -/
def variantI2C (spsMhz : Nat) : Params :=
  { n := 21, ts := 200, tr := 10000, ta := 500, recheckEn := false, maxRate := spsMhz }

/-- The instance that `State.reset` stands for. DESIGN CHOICE (log 1): the spec describes every legal
instance, and the fixed name `State.reset` needs one. -/
def resetInstance : Params := variantBB

/-- FREE VALUE (log 8): what a window slot at or above `LEN` reads as, for the given draw and slot
index. R20 says such a slot holds no value. No body, so nothing can be proved about it. -/
opaque unusedSlot : Nat → Nat → Sample

end Config

end Sys2Proof
end

