-- ==== Sys2Proof/Syntax.lean ====
section
/-! DEFINITION. The operations of the block, one constructor per row of spec/opcode_table.json (30_encoding.md R54). -/

namespace Sys2Proof

/-- A RegressionResult: exact slope, intercept and mean absolute residual (R64, R10). -/
structure RegressionResult where
  /-- slope -/
  a : ℚ
  /-- intercept -/
  b : ℚ
  /-- mean absolute residual -/
  e : ℚ
  deriving DecidableEq, Repr

/-- The operations of R54: five commands, two events, seven internal micro-operations. -/
inductive Instr where
  /-- `CONFIGURE` (R80). -/
  | configure
  /-- `POWER_ON` (R81). -/
  | powerOn
  /-- `POWER_OFF` (R83). -/
  | powerOff
  /-- `START f_mHz` (R84). -/
  | start (f : MilliHz)
  /-- `STOP` (R85). -/
  | stop
  /-- `TICK` (R86), with the SampleSource's answers `isReady()` and, read only if ready, `readRaw()`. -/
  | tick (ready : Bool) (raw : Sample)
  /-- `POLL` (R82), with the SampleSource's answer `isReady()`. -/
  | poll (ready : Bool)
  /-- `WIN_APPEND(v)` (R60). -/
  | winAppend (v : Sample)
  /-- `WIN_REPLACE_LAST(v)` (R61). -/
  | winReplaceLast (v : Sample)
  /-- `WIN_POP_LAST_UNDO()` (R62). -/
  | winPopLastUndo
  /-- `REGRESS()` (R64). -/
  | regress
  /-- `FILTER_RESET()` (R72). -/
  | filterReset
  /-- `FILTER_STEP(s)` (R74). -/
  | filterStep (s : Sample)
  /-- `UPDATE_OUTPUTS(r)` (R73). -/
  | updateOutputs (r : RegressionResult)
  deriving DecidableEq, Repr

/-- The three formats of 30_encoding.md section 1. -/
inductive Format where
  /-- A 32-bit word the host writes to `CMD`. -/
  | cmd
  /-- An internal strobe of the Timer or the power-on poller; no data word. -/
  | event
  /-- No encoding; used by the block's own rules only. -/
  | internal
  deriving DecidableEq, Repr

/-- The format column of R54's tables. -/
def Instr.format : Instr → Format
  | .configure => .cmd
  | .powerOn => .cmd
  | .powerOff => .cmd
  | .start _ => .cmd
  | .stop => .cmd
  | .tick _ _ => .event
  | .poll _ => .event
  | .winAppend _ => .internal
  | .winReplaceLast _ => .internal
  | .winPopLastUndo => .internal
  | .regress => .internal
  | .filterReset => .internal
  | .filterStep _ => .internal
  | .updateOutputs _ => .internal

end Sys2Proof
end

