-- ==== Sys2Proof/WellFormed.lean ====
section
/-! DEFINITION. Which operand values the rules admit, where the operand's type does not already say it. -/

namespace Sys2Proof

/-- The saturation sentinel `0x7FFFFF` (R9, R53). -/
def sentinel : Sample := 0x7FFFFF#24

/-- Operand checks. FILTER_STEP takes a sample in `-2^23 .. 2^23 - 2`, never the sentinel (R74).
UPDATE_OUTPUTS takes a REGRESS result, whose residual is never negative (R73, R69.4). Every other operand
is legal at every value of its type: 24-bit samples (R60, R61), frequencies (R52), answers (R100). -/
def Instr.wf : Instr → Bool
  | .configure => true
  | .powerOn => true
  | .powerOff => true
  | .start _ => true
  | .stop => true
  | .tick _ _ => true
  | .poll _ => true
  | .winAppend _ => true
  | .winReplaceLast _ => true
  | .winPopLastUndo => true
  | .regress => true
  | .filterReset => true
  | .filterStep s => decide (s ≠ sentinel)
  | .updateOutputs r => decide (0 ≤ r.e)

end Sys2Proof
end

