-- ==== Sys2Proof/Decode.lean ====
section
/-! DEFINITION. Decoding of command words, total on every word, and the encoder (30_encoding.md R51 to R57). -/

namespace Sys2Proof

/-- Why a word is no command (R56); each completes with `RESULT = ILLEGAL`. -/
inductive DecodeError where
  /-- `OPC` is `0x00` or in `0x06 .. 0xFF`. -/
  | reservedOpcode
  /-- `IMM` is not 0 on a command other than `START`. -/
  | nonzeroImm
  deriving DecidableEq, Repr

/-- `OPC = word[31:24]` (R51). -/
def opcOf (w : Word) : BitVec 8 := w.extractLsb' 24 8

/-- `IMM = word[23:0]` (R51). -/
def immOf (w : Word) : BitVec 24 := w.extractLsb' 0 24

/-- A command that requires `IMM = 0` (R55). -/
def requireZeroImm (imm : BitVec 24) (i : Instr) : Except DecodeError Instr :=
  if imm = 0#24 then .ok i else .error .nonzeroImm

/-- The decoder of R55. `START`'s operand is `zext_24(IMM)`, neither scaled nor sign-extended (R52). -/
def decode (w : Word) : Except DecodeError Instr :=
  if opcOf w = 0x01#8 then requireZeroImm (immOf w) .configure
  else if opcOf w = 0x02#8 then requireZeroImm (immOf w) .powerOn
  else if opcOf w = 0x03#8 then requireZeroImm (immOf w) .powerOff
  else if opcOf w = 0x04#8 then .ok (.start (immOf w))
  else if opcOf w = 0x05#8 then requireZeroImm (immOf w) .stop
  else .error .reservedOpcode

/-- The word of `OPC` and `IMM` (R51). -/
def commandWord (opc : BitVec 8) (imm : BitVec 24) : Word := opc ++ imm

/-- The encoder of R54 and R58; events and internal operations have no word. -/
def encode : Instr → Option Word
  | .configure => some (commandWord 0x01#8 0#24)
  | .powerOn => some (commandWord 0x02#8 0#24)
  | .powerOff => some (commandWord 0x03#8 0#24)
  | .start f => some (commandWord 0x04#8 f)
  | .stop => some (commandWord 0x05#8 0#24)
  | .tick _ _ => none
  | .poll _ => none
  | .winAppend _ => none
  | .winReplaceLast _ => none
  | .winPopLastUndo => none
  | .regress => none
  | .filterReset => none
  | .filterStep _ => none
  | .updateOutputs _ => none

/-- The byte lanes of a word on a host bus that splits it: lane `j` carries bits `[8j+7:8j]` (R40). -/
def lanesOf (w : Word) : List Byte :=
  [w.extractLsb' 0 8, w.extractLsb' 8 8, w.extractLsb' 16 8, w.extractLsb' 24 8]

/-- The word that four byte lanes carry, lane 0 first (R40). -/
def ofLanes (b0 b1 b2 b3 : Byte) : Word := b3 ++ b2 ++ b1 ++ b0

/-- The command in a sequence of byte lanes, with the lanes after it; a command is exactly four lanes
long (R57). `none` where fewer are left. -/
def decodeLanes : List Byte → Option (Except DecodeError Instr × List Byte)
  | b0 :: b1 :: b2 :: b3 :: rest => some (decode (ofLanes b0 b1 b2 b3), rest)
  | _ => none

/-- The word of an opcode-table row's bits: bits above `nbits` are 0. -/
def tableWord (nbits w : Nat) : Word := BitVec.ofNat 32 (w % 2 ^ nbits)

/-- What the decoder reads from a row of spec/opcode_table.json. No command is longer than 32 bits (R57). -/
def decodeTableWord (nbits w : Nat) : Option Instr :=
  if nbits ≤ 32 then
    match decode (tableWord nbits w) with
    | .ok i => some i
    | .error _ => none
  else none

end Sys2Proof
end

