-- ==== Sys2Proof/Machine/State.lean ====
section
/-! DEFINITION. The state of the block as plain data (10_state.md), the outcomes a step can end in, and the state after block reset (R34, R104). -/

namespace Sys2Proof.Machine

/-- `DEV`, the device lifecycle state (R16). Codes 6 and 7 are never held. -/
inductive Dev where
  | uninitialized | configured | poweringOn | ready | periodic | poweredOff
  deriving DecidableEq, Repr

/-- `MODE`, the filter mode (R22). Code 3 is never held. -/
inductive Mode where
  | filling | tracking | rechecking
  deriving DecidableEq, Repr

/-- `UNDO.kind` (R21). -/
inductive UndoKind where
  | none | grow | slide
  deriving DecidableEq, Repr

/-- The undo record (R21). -/
structure Undo where
  kind    : UndoKind
  /-- The value the last sliding append evicted; meaningful only when `kind` is `slide`. -/
  evicted : Sample
  deriving DecidableEq, Repr

/-- The result codes of R90. Codes 6 to 255 are never written. -/
inductive ResultCode where
  | ok | noop | notReady | alreadyRunning | badFrequency | illegal
  deriving DecidableEq, Repr

/-- What the block answers the host in a step (`reg_ack`, `reg_rdata`, R50). An `ACCESS_FAULT`
(`reg_err`) is the outcome `fault accessFault` instead. -/
inductive HostReply where
  /-- `reg_ack` low: no access completed. -/
  | idle
  /-- A `CMD` write completed (`OK_ACCESS`, R38). -/
  | okAccess
  /-- A read completed with this `reg_rdata`. -/
  | data (v : Word)
  deriving DecidableEq, Repr

/-- What the block drove in the last step. These are outputs, not storage: every step starts by letting
them fall, and no rule reads them (log 6). -/
structure Signals where
  reply   : HostReply
  /-- `src_rd`: one `readRaw()` call was made (R100). -/
  srcRd   : Bool
  /-- `src_cfg`: the configure request was pulsed (R100). -/
  srcCfg  : Bool
  /-- The result a REGRESS executed on its own handed its caller (R64 "not stored; the caller consumes
  it"; log 7). -/
  regress : Option RegressionResult
  deriving DecidableEq, Repr

/-- No access answered and no strobe. -/
def Signals.quiet : Signals := { reply := .idle, srcRd := false, srcCfg := false, regress := none }

/-- One register access of the host, with the signals of R50. -/
structure HostAccess where
  /-- `reg_wr`: 1 = write. -/
  wr    : Bool
  /-- `reg_off` -/
  off   : Offset
  /-- `reg_size`: access size in bytes as log2. -/
  size  : BitVec 2
  /-- `reg_wdata` -/
  wdata : Word
  deriving DecidableEq, Repr

/-- Who moves: an agent (R12), with the SampleSource's answers to that step (R100), or block reset. -/
inductive Turn where
  /-- The host: its oldest uncompleted access. -/
  | host
  /-- The Timer: one firing. -/
  | timer (ready : Bool) (raw : Sample)
  /-- The power-on poller: one poll. -/
  | poller (ready : Bool)
  /-- The outside world constructs the block again: block reset (R104, R108; log 12). -/
  | blockReset
  deriving DecidableEq, Repr

/-- The state of the block, with the environment's moves still to come as data. -/
structure State where
  /-- The instantiation parameters (R5); no step changes them. -/
  cfg       : Params
  /-- `DEV` (R16). -/
  dev       : Dev
  /-- `ARMED` (R17). -/
  armed     : Bool
  /-- `FREQ` (R18). -/
  freq      : MilliHz
  /-- `RESULT` (R19). -/
  result    : ResultCode
  /-- The valid samples `W[0..LEN-1]`, oldest first (R20); `LEN` is its length (log 9). -/
  window    : List Sample
  /-- `UNDO` (R21). -/
  undo      : Undo
  /-- `MODE` (R22); `PENDING` is `MODE = RECHECKING` (R23). -/
  mode      : Mode
  /-- `BACKUP` (R24). -/
  backup    : Sample
  /-- `MEAN_NUM` (R25). -/
  meanNum   : Word
  /-- `TREND_NUM` (R25). -/
  trendNum  : Word
  /-- `STABLE` (R25). -/
  stable    : Bool
  /-- The outputs of the last step (R50, R100). -/
  signals   : Signals
  /-- The host's accesses not yet completed, oldest first (R45.3; log 2). -/
  hostQueue : List HostAccess
  /-- The agents' turns still to come (R45.4; log 2). -/
  schedule  : List Turn
  /-- How many free values have been drawn (log 8). -/
  freeDraws : Nat
  deriving DecidableEq, Repr

/-- The internal faults of R93. -/
inductive InternalReason where
  /-- WIN_REPLACE_LAST on an empty window (R61). -/
  | replaceEmpty
  /-- WIN_POP_LAST_UNDO with no undo record (R62). -/
  | undoEmpty
  /-- REGRESS on a window of `3 <= LEN < N` samples (R64). -/
  | partialWindow
  deriving DecidableEq, Repr

/-- The faults of R92. Both stop the model where the spec says that the faulted state is never final. -/
inductive Fault where
  /-- Raised by a host access that R39 forbids. Safe: the spec names it, and nothing changes. -/
  | accessFault
  /-- Raised by the micro-operations of R61, R62 and R64 outside their preconditions. Safe: the spec
  names each, and no command sequence reaches one (R93). -/
  | internalFault (r : InternalReason)
  deriving DecidableEq, Repr

/-- The refusals. -/
inductive Refusal where
  /-- Raised by `exec` for an instruction without a meaning. Safe. No arm raises it in this model. -/
  | notModelled (mnemonic : String)
  /-- Raised by `instantiate` for parameters outside R5's ranges: the instance is not built (R92.6). Safe. -/
  | illegalInstance
  deriving DecidableEq, Repr

/-- The state of an instance right after block reset (R34, R104). The last four fields are outputs and
the model's own; their values are the model's choice (logs 6, 8, 10). -/
def State.resetOf (p : Params) : State :=
  { cfg       := p
    dev       := .uninitialized
    armed     := false
    freq      := 0#24
    result    := .ok
    window    := []
    undo      := { kind := .none, evicted := 0#24 }
    mode      := .filling
    backup    := 0#24
    meanNum   := 0#32
    trendNum  := 0#32
    stable    := false
    signals   := Signals.quiet
    hostQueue := []
    schedule  := []
    freeDraws := 0 }

/-- The machine right after reset, for the instance of log 1. -/
def State.reset : State := State.resetOf Config.resetInstance

end Sys2Proof.Machine
end

