-- ==== Sys2Proof/Machine/Operands.lean ====
section
/-! DEFINITION. How operands are read: samples and offsets as integers, window slots, frequencies, exact sums and the derived constants (00_scope.md R6, R7, R9 to R11; 30_encoding.md R52, R53). -/

namespace Sys2Proof.Machine

/-- `sext_24(v) = v[23:0] - 2^24 * v[23]` (R11). -/
def sext24 (v : Sample) : Int := (v.toNat : Int) - 2 ^ 24 * (if v.msb then 1 else 0)

/-- `zext_24(v)` (R11). -/
def zext24 (v : BitVec 24) : Nat := v.toNat

/-- The exact sum `f(0) + ... + f(n-1)`; an empty sum is 0 (R11). -/
def sumTo {α : Type} [Zero α] [Add α] : Nat → (Nat → α) → α
  | 0, _ => 0
  | n + 1, f => sumTo n f + f n

/-- `H = (N - 1) / 2` (R6). -/
def halfWidth (p : Params) : Nat := (p.n - 1) / 2

/-- `X[i] = i - H` (R6). -/
def offsetX (p : Params) (i : Nat) : Int := (i : Int) - (halfWidth p : Int)

/-- `SXX = (N - 1) * N * (N + 1) / 12` (R7). -/
def sxx (p : Params) : Nat := (p.n - 1) * p.n * (p.n + 1) / 12

/-- `DEN = N * SXX` (R7). -/
def den (p : Params) : Nat := p.n * sxx p

/-- `DEN_E = N * N * SXX` (R7). -/
def denE (p : Params) : Nat := p.n * p.n * sxx p

/-- `|v|` on exact rationals (R11). -/
def absQ (q : ℚ) : ℚ := if 0 ≤ q then q else -q

/-- `|v|` on integers (R11). -/
def absZ (z : Int) : Int := if 0 ≤ z then z else -z

/-- `LEN` (R20). -/
def State.len (s : State) : Nat := s.window.length

/-- The sample in slot `i`. A slot at or above `LEN` holds no value (R20): it reads as a free value
(log 8). Only UPDATE_OUTPUTS outside its precondition reads one. -/
def State.slot (s : State) (i : Nat) : Sample :=
  s.window.getD i (Config.unusedSlot s.freeDraws i)

/-- `W[i]` as an integer. -/
def State.w (s : State) (i : Nat) : Int := sext24 (s.slot i)

/-- A frequency in hertz: `f_mHz / 1000`, an exact rational (R52). -/
def hertz (f : Nat) : ℚ := (f : ℚ) / 1000

/-- `maxSampleRateHz()` (R100). -/
def maxSampleRateHz (p : Params) : ℚ := hertz p.maxRate

/-- The Timer's nominal period `1000 / FREQ` seconds (R18, R99). No rule depends on it (R107). DESIGN CHOICE
(log 25): while `FREQ = 0` (after reset, before any successful START) the spec states no period, and there
is none. -/
def State.nominalPeriod (s : State) : Option ℚ :=
  if s.freq = 0#24 then none else some (1000 / (s.freq.toNat : ℚ))

/-- `0 < f_mHz <= P_MAXRATE_MHZ`, the range of R84, inclusive at the top. -/
def frequencyInRange (p : Params) (f : MilliHz) : Bool :=
  decide (zext24 f ≠ 0) && decide (zext24 f ≤ p.maxRate)

/-- A raw code that is the saturation sentinel, compared before sign extension (R53, R86). No other code
is special. -/
def isSentinel (raw : Sample) : Bool := decide (raw = sentinel)

/-- A 32-bit access: `reg_size = 2` (R50, R41). -/
def HostAccess.wordSized (a : HostAccess) : Bool := decide (a.size = 2#2)

end Sys2Proof.Machine
end

