-- ==== Sys2Proof/Machine/Flags.lean ====
section
/-! DEFINITION. Codes, flags, threshold decisions and the register views computed from State (10_state.md R16 to R32; 41_regression.md R68; 60_exceptions.md R90, R100, R103). -/

namespace Sys2Proof.Machine

/-- The codes of `DEV` (R16). -/
def Dev.code : Dev → BitVec 3
  | .uninitialized => 0#3
  | .configured => 1#3
  | .poweringOn => 2#3
  | .ready => 3#3
  | .periodic => 4#3
  | .poweredOff => 5#3

/-- The codes of `MODE` (R22). -/
def Mode.code : Mode → BitVec 2
  | .filling => 0#2
  | .tracking => 1#2
  | .rechecking => 2#2

/-- The result codes (R90). -/
def ResultCode.code : ResultCode → BitVec 8
  | .ok => 0#8
  | .noop => 1#8
  | .notReady => 2#8
  | .alreadyRunning => 3#8
  | .badFrequency => 4#8
  | .illegal => 5#8

/-- The source's boolean return: `true` exactly for `OK` (R19, R90). -/
def ResultCode.returned (c : ResultCode) : Bool := decide (c = .ok)

/-- One flag as a bit. -/
def flagBit (b : Bool) : BitVec 1 := BitVec.ofBool b

/-- `PENDING = 1` exactly when `MODE = RECHECKING` (R23). -/
def State.pending (s : State) : Bool := decide (s.mode = .rechecking)

/-- The `STATUS` word (R31). -/
def State.statusWord (s : State) : Word :=
  0#19 ++ BitVec.ofNat 5 s.len ++ flagBit s.pending ++ flagBit s.stable ++ s.mode.code
    ++ flagBit s.armed ++ s.dev.code

/-- The `CFG` word: `CFG[4:0] = P_N`, `CFG[8] = P_RECHECK_EN` (R32). -/
def cfgWord (p : Params) : Word :=
  0#23 ++ flagBit p.recheckEn ++ 0#3 ++ BitVec.ofNat 5 p.n

/-- The 32-bit value of the readable register at `off` (R29, R32), or `none` where R37 gives an access
fault: `CMD`, misaligned and reserved offsets. -/
def State.readRegister (s : State) (off : Offset) : Option Word :=
  if off = 0x04#6 then some (0#24 ++ s.result.code)
  else if off = 0x08#6 then some s.statusWord
  else if off = 0x0C#6 then some s.meanNum
  else if off = 0x10#6 then some s.trendNum
  else if off = 0x14#6 then some (0#8 ++ s.freq)
  else if off = 0x18#6 then some (cfgWord s.cfg)
  else if off = 0x1C#6 then some (BitVec.ofNat 32 (sxx s.cfg))
  else if off = 0x20#6 then some (BitVec.ofNat 32 s.cfg.ts)
  else if off = 0x24#6 then some (BitVec.ofNat 32 s.cfg.tr)
  else if off = 0x28#6 then some (BitVec.ofNat 32 s.cfg.ta)
  else if off = 0x2C#6 then some (0#8 ++ BitVec.ofNat 24 s.cfg.maxRate)
  else none

/-- `stable = e < P_TS`, strict and exact (R73, R68). -/
def stableRule (p : Params) (e : ℚ) : Bool := decide (e < (p.ts : ℚ))

/-- The outlier-suspect rule `e > P_TR`, only where the recheck exists (R76). -/
def suspectRule (p : Params) (e : ℚ) : Bool := p.recheckEn && decide ((p.tr : ℚ) < e)

/-- The recheck's acceptance `e1 < P_TA` (R78). -/
def acceptRule (p : Params) (e : ℚ) : Bool := decide (e < (p.ta : ℚ))

/-- `src_pwr`: 1 exactly when `DEV` is `POWERING_ON`, `READY` or `PERIODIC` (R100). -/
def State.srcPwr (s : State) : Bool :=
  match s.dev with
  | .uninitialized => false
  | .configured => false
  | .poweringOn => true
  | .ready => true
  | .periodic => true
  | .poweredOff => false

/-- The power states of the device the block drives (R103). -/
inductive PowerState where
  | unpowered | powering | powered
  deriving DecidableEq, Repr

/-- R103's reading of `DEV`. -/
def Dev.powerState : Dev → PowerState
  | .uninitialized => .unpowered
  | .configured => .unpowered
  | .poweringOn => .powering
  | .ready => .powered
  | .periodic => .powered
  | .poweredOff => .unpowered

/-- `meanValue = MEAN_NUM / N` (R26). -/
def State.meanValue (s : State) : ℚ := (s.meanNum.toInt : ℚ) / (s.cfg.n : ℚ)

/-- `trendValue = TREND_NUM / SXX` (R26). -/
def State.trendValue (s : State) : ℚ := (s.trendNum.toInt : ℚ) / (sxx s.cfg : ℚ)

/-- The parallel output bundle (R28). -/
structure OutputBundle where
  meanNum  : Word
  trendNum : Word
  stable   : Bool
  status   : Word
  deriving DecidableEq, Repr

/-- What the bundle carries (R28). -/
def State.outputs (s : State) : OutputBundle :=
  { meanNum := s.meanNum, trendNum := s.trendNum, stable := s.stable, status := s.statusWord }

end Sys2Proof.Machine
end

