-- ==== Sys2Proof/Machine/Ops.lean ====
section
/-! DEFINITION. The named operations the meanings are built from. The block raises no exceptions (60_exceptions.md R89): what every command shares at its end is `complete`, which writes the result code and acknowledges the host's write. -/

namespace Sys2Proof.Machine

/-- What a meaning answers. -/
abbrev Result := Host.Outcome State Fault Refusal

/-- Go on from a next state; a fault or a refusal stays. -/
def andThen (o : Result) (k : State → Result) : Result :=
  match o with
  | .next s => k s
  | .fault r => .fault r
  | .refused r => .refused r

/-- Let the outputs of the last step fall (log 6). -/
def State.quiet (s : State) : State := { s with signals := Signals.quiet }

/-- Complete a host command: `RESULT <- c` (R90), and acknowledge its `CMD` write (R38, R82). -/
def State.complete (c : ResultCode) (s : State) : State :=
  { s with result := c, signals := { s.signals with reply := .okAccess } }

/-- `DEV <- d`. -/
def State.setDev (d : Dev) (s : State) : State := { s with dev := d }

/-- `ARMED <- b`. -/
def State.setArmed (b : Bool) (s : State) : State := { s with armed := b }

/-- `FREQ <- f`. -/
def State.setFreq (f : MilliHz) (s : State) : State := { s with freq := f }

/-- `MODE <- m`. -/
def State.setMode (m : Mode) (s : State) : State := { s with mode := m }

/-- `BACKUP <- v`. -/
def State.setBackup (v : Sample) (s : State) : State := { s with backup := v }

/-- The window and its undo record, written together. -/
def State.setWindow (w : List Sample) (u : Undo) (s : State) : State :=
  { s with window := w, undo := u }

/-- The three output registers, written together (R25). -/
def State.setOutputs (mean trend : Word) (stable : Bool) (s : State) : State :=
  { s with meanNum := mean, trendNum := trend, stable := stable }

/-- Count a draw of free values if any slot of the window holds none (log 8). -/
def State.countDraw (s : State) : State :=
  { s with freeDraws := if s.len < s.cfg.n then s.freeDraws + 1 else s.freeDraws }

/-- Pulse `src_cfg` (R80, R100). -/
def State.pulseCfg (s : State) : State := { s with signals := { s.signals with srcCfg := true } }

/-- Pulse `src_rd`: one `readRaw()` call (R86, R100). -/
def State.pulseRd (s : State) : State := { s with signals := { s.signals with srcRd := true } }

/-- Hand a regression result to the caller (log 7). -/
def State.deliver (r : RegressionResult) (s : State) : State :=
  { s with signals := { s.signals with regress := some r } }

/-- Answer a register read (R37). -/
def State.answer (v : Word) (s : State) : State :=
  { s with signals := { s.signals with reply := .data v } }

/-- The turns left. -/
def State.setSchedule (l : List Turn) (s : State) : State := { s with schedule := l }

/-- The host accesses left. -/
def State.setHostQueue (l : List HostAccess) (s : State) : State := { s with hostQueue := l }

/-- Re-create the Window and FilterState as empty and zero (R72). -/
def State.filterReset (s : State) : State :=
  { s with
    window   := []
    undo     := { kind := .none, evicted := 0#24 }
    mode     := .filling
    backup   := 0#24
    meanNum  := 0#32
    trendNum := 0#32
    stable   := false }

/-- Block reset of a running block (R104): every element at R34's value, no strobe. What the environment
has still to do stays, a held write too (log 12). DESIGN CHOICE (log 26): the `CMD` write of a POWER_ON that
is still pending has left the queue, so the reset drops it, and it is never acknowledged. -/
def State.blockReset (s : State) : State :=
  { s.filterReset with
    dev     := .uninitialized
    armed   := false
    freq    := 0#24
    result  := .ok
    signals := Signals.quiet }

/-- The command port: a command executes only while `DEV` is not `POWERING_ON`; then it is held, and a
held command changes nothing (R30, R38, R87; log 4). -/
def onCommandPort (s : State) (k : State → State) : Result :=
  if s.dev = .poweringOn then .next s else .next (k s)

/-- An illegal word completes as a command: `RESULT <- ILLEGAL` and no other state change (R56). -/
def execIllegal (s : State) : Result := .next (s.complete .illegal)

/-- Block reset of an instance (R104), or its refusal where a parameter is outside R5's ranges (R92.6). -/
def instantiate (p : Params) : Result :=
  if p.Legal then .next (State.resetOf p) else .refused .illegalInstance

/-- The host's write of a command word to `CMD`. -/
def commandWrite (w : Word) : HostAccess := { wr := true, off := 0x00#6, size := 2#2, wdata := w }

/-- The host's read of the register at `off`. -/
def registerRead (off : Offset) : HostAccess := { wr := false, off := off, size := 2#2, wdata := 0#32 }

/-- Put a command word next: it is the host's oldest access, and the host moves next (log 11). -/
def State.placeCommand (w : Word) (s : State) : State :=
  { s with hostQueue := commandWrite w :: s.hostQueue, schedule := .host :: s.schedule }

end Sys2Proof.Machine
end

