-- ==== Sys2Proof/Machine/Regression.lean ====
section
/-! DEFINITION. regression_engine: REGRESS, the exact least-squares fit of the window against the offsets (41_regression.md R64 to R71). -/

namespace Sys2Proof.Machine

/-- The fit of R64 over `l` points `(x i, y i)`, in exact rationals. -/
def fit (l : Nat) (x y : Nat → Int) : RegressionResult :=
  let sx : ℚ := (sumTo l x : Int)
  let sxx : ℚ := (sumTo l (fun i => x i * x i) : Int)
  let sy : ℚ := (sumTo l y : Int)
  let sxy : ℚ := (sumTo l (fun i => x i * y i) : Int)
  let d : ℚ := l * sxx - sx * sx
  let a : ℚ := (l * sxy - sx * sy) / d
  let b : ℚ := (sxx * sy - sx * sxy) / d
  let e : ℚ := 1 / l * sumTo l (fun i => absQ ((y i : ℚ) - (a * (x i : ℚ) + b)))
  { a := a, b := b, e := e }

/-- The zero result (R64). -/
def zeroResult : RegressionResult := { a := 0, b := 0, e := 0 }

/-- REGRESS (R64): zero for `LEN <= 2`, undefined for `3 <= LEN < N`, else the fit of the window. It
reads the window only. -/
def regress (s : State) : Except Fault RegressionResult :=
  if s.len ≤ 2 then .ok zeroResult
  else if s.len < s.cfg.n then .error (.internalFault .partialWindow)
  else .ok (fit s.len (offsetX s.cfg) s.w)

/-- Run REGRESS and hand its result to what follows. -/
def withRegress (s : State) (k : RegressionResult → Result) : Result :=
  match regress s with
  | .ok r => k r
  | .error f => .fault f

/-- The integer residual `R_i` of slot `i` (R67). -/
def residualNum (p : Params) (y : Nat → Int) (i : Nat) : Int :=
  p.n * sxx p * y i - p.n * sumTo p.n (fun j => offsetX p j * y j) * offsetX p i - sxx p * sumTo p.n y

/-- `E_NUM` (R67): the mean absolute residual is `E_NUM / DEN_E`. -/
def eNum (p : Params) (y : Nat → Int) : Int := sumTo p.n (fun i => absZ (residualNum p y i))

/-- `REGRESS()` (R64). It writes no state; its result goes to its caller (log 7). -/
def execRegress (s : State) : Result := withRegress s (fun r => .next (s.deliver r))

end Sys2Proof.Machine
end

