-- ==== Sys2Proof/Machine/SlidingWindow.lean ====
section
/-! DEFINITION. sliding_window_buffer: WIN_APPEND, WIN_REPLACE_LAST, WIN_POP_LAST_UNDO (40_sliding_window.md R59 to R63). -/

namespace Sys2Proof.Machine

/-- Append one sample (R60): grow while `LEN < N`, else drop the oldest and append. -/
def winAppend (v : Sample) (s : State) : State :=
  if s.len < s.cfg.n then
    s.setWindow (s.window ++ [v]) { kind := .grow, evicted := 0#24 }
  else
    s.setWindow (s.window.tail ++ [v]) { kind := .slide, evicted := s.slot 0 }

/-- Overwrite the newest sample (R61). -/
def winReplaceLast (v : Sample) (s : State) : Result :=
  if s.len = 0 then .fault (.internalFault .replaceEmpty)
  else .next (s.setWindow (s.window.dropLast ++ [v]) { s.undo with kind := .none })

/-- Undo the most recent append as a whole (R62). -/
def winPopLastUndo (s : State) : Result :=
  match s.undo.kind with
  | .none => .fault (.internalFault .undoEmpty)
  | .grow => .next (s.setWindow s.window.dropLast { s.undo with kind := .none })
  | .slide => .next (s.setWindow (s.undo.evicted :: s.window.dropLast) { s.undo with kind := .none })

/-- `WIN_APPEND(v)` (R60). -/
def execWinAppend (v : Sample) (s : State) : Result := .next (winAppend v s)

/-- `WIN_REPLACE_LAST(v)` (R61). -/
def execWinReplaceLast (v : Sample) (s : State) : Result := winReplaceLast v s

/-- `WIN_POP_LAST_UNDO()` (R62). -/
def execWinPopLastUndo (s : State) : Result := winPopLastUndo s

end Sys2Proof.Machine
end

