-- ==== Sys2Proof/Machine/DriftFilter.lean ====
section
/-! DEFINITION. drift_filter: FILTER_RESET, UPDATE_OUTPUTS and FILTER_STEP with its three modes (42_drift_filter.md R72 to R79). -/

namespace Sys2Proof.Machine

/-- Publish the outputs for the current full window (R73). Where the window is not full, the slots that
hold no value read as free values (log 8). -/
def updateOutputs (r : RegressionResult) (s : State) : State :=
  (s.setOutputs
    (BitVec.ofInt 32 (sumTo s.cfg.n s.w))
    (BitVec.ofInt 32 (sumTo s.cfg.n (fun i => offsetX s.cfg i * s.w i)))
    (stableRule s.cfg r.e)).countDraw

/-- The Filling step (R75). -/
def fillStep (v : Sample) (s : State) : Result :=
  let s1 := winAppend v s
  if s1.len = s1.cfg.n then
    withRegress s1 (fun r => .next ((updateOutputs r s1).setMode .tracking))
  else .next s1

/-- The outlier-suspect rule's effect: `BACKUP <- W[0]`, `MODE <- RECHECKING` (R76, R77). -/
def suspect (s : State) : State := (s.setBackup (s.slot 0)).setMode .rechecking

/-- The Tracking step (R76). -/
def trackStep (v : Sample) (s : State) : Result :=
  let s1 := winAppend v s
  withRegress s1 (fun r =>
    let s2 := updateOutputs r s1
    .next (if suspectRule s2.cfg r.e then suspect s2 else s2))

/-- The Rechecking rollback (R78 c): pop the tentative slide, put the backup in the place of the suspect
sample, slide the new one in. -/
def rollback (v : Sample) (s : State) : Result :=
  andThen (winPopLastUndo s) (fun s1 =>
    andThen (winReplaceLast s1.backup s1) (fun s2 => .next (winAppend v s2)))

/-- The Rechecking step (R78). -/
def recheckStep (v : Sample) (s : State) : Result :=
  let s1 := winAppend v s
  withRegress s1 (fun r1 =>
    if acceptRule s1.cfg r1.e then .next ((updateOutputs r1 s1).setMode .tracking)
    else andThen (rollback v s1) (fun s2 =>
      withRegress s2 (fun r2 => .next ((updateOutputs r2 s2).setMode .tracking))))

/-- The dispatch of R74. -/
def filterStep (v : Sample) (s : State) : Result :=
  match s.mode with
  | .filling => fillStep v s
  | .tracking => trackStep v s
  | .rechecking => recheckStep v s

/-- `FILTER_RESET()` (R72). -/
def execFilterReset (s : State) : Result := .next s.filterReset

/-- `UPDATE_OUTPUTS(r)` (R73). -/
def execUpdateOutputs (r : RegressionResult) (s : State) : Result := .next (updateOutputs r s)

/-- `FILTER_STEP(s)` (R74). -/
def execFilterStep (v : Sample) (s : State) : Result := filterStep v s

end Sys2Proof.Machine
end

