-- ==== Sys2Proof/Machine/Scheduler.lean ====
section
/-! DEFINITION. acquisition_scheduler: the five commands and the two events (43_scheduler.md R80 to R88). -/

namespace Sys2Proof.Machine

/-- `CONFIGURE` once accepted (R80). -/
def configureEffect (s : State) : State :=
  if s.dev = .uninitialized then (s.setDev .configured).pulseCfg.complete .ok
  else s.complete .noop

/-- `POWER_ON` once accepted (R81): the command completes only in the POLL that sees `isReady()`. -/
def powerOnEffect (s : State) : State :=
  if s.dev = .configured ∨ s.dev = .poweredOff then s.setDev .poweringOn
  else s.complete .noop

/-- `POWER_OFF` once accepted (R83). -/
def powerOffEffect (s : State) : State :=
  if s.dev = .ready ∨ s.dev = .periodic then ((s.setArmed false).setDev .poweredOff).complete .ok
  else s.complete .noop

/-- `START f` once accepted (R84); the order of the checks is R95.3's. -/
def startEffect (f : MilliHz) (s : State) : State :=
  if s.dev = .periodic then s.complete .alreadyRunning
  else if s.dev ≠ .ready then s.complete .notReady
  else if frequencyInRange s.cfg f = false then s.complete .badFrequency
  else (((s.filterReset.setFreq f).setDev .periodic).setArmed true).complete .ok

/-- `STOP` once accepted (R85). -/
def stopEffect (s : State) : State :=
  if s.dev = .periodic then ((s.setArmed false).setDev .ready).complete .ok
  else s.complete .noop

/-- `CONFIGURE` (R80). -/
def execConfigure (s : State) : Result := onCommandPort s configureEffect

/-- `POWER_ON` (R81). -/
def execPowerOn (s : State) : Result := onCommandPort s powerOnEffect

/-- `POWER_OFF` (R83). -/
def execPowerOff (s : State) : Result := onCommandPort s powerOffEffect

/-- `START f_mHz` (R84). -/
def execStart (f : MilliHz) (s : State) : Result := onCommandPort s (startEffect f)

/-- `STOP` (R85). -/
def execStop (s : State) : Result := onCommandPort s stopEffect

/-- `TICK` (R86). It is delivered only while `ARMED = 1`; a firing that is not is discarded (log 3). -/
def execTick (ready : Bool) (raw : Sample) (s : State) : Result :=
  if s.armed = false then .next s
  else if ready = false then .next s
  else if isSentinel raw then .next s.pulseRd
  else filterStep raw s.pulseRd

/-- `POLL` (R82). It is enabled only while `DEV = POWERING_ON`; elsewhere it does nothing (log 3). -/
def execPoll (ready : Bool) (s : State) : Result :=
  if s.dev = .poweringOn ∧ ready = true then .next ((s.setDev .ready).complete .ok)
  else .next s

end Sys2Proof.Machine
end

