-- ==== Sys2Proof/Machine/Dispatch.lean ====
section
/-! DEFINITION. One arm per operation of the opcode table, each a direct call of its meaning. -/

namespace Sys2Proof.Machine

def exec (i : Instr) (s : State) : Host.Outcome State Fault Refusal :=
  match i with
  | .configure => Sys2Proof.Machine.execConfigure s
  | .powerOn => Sys2Proof.Machine.execPowerOn s
  | .powerOff => Sys2Proof.Machine.execPowerOff s
  | .start f => Sys2Proof.Machine.execStart f s
  | .stop => Sys2Proof.Machine.execStop s
  | .tick ready raw => Sys2Proof.Machine.execTick ready raw s
  | .poll ready => Sys2Proof.Machine.execPoll ready s
  | .winAppend v => Sys2Proof.Machine.execWinAppend v s
  | .winReplaceLast v => Sys2Proof.Machine.execWinReplaceLast v s
  | .winPopLastUndo => Sys2Proof.Machine.execWinPopLastUndo s
  | .regress => Sys2Proof.Machine.execRegress s
  | .filterReset => Sys2Proof.Machine.execFilterReset s
  | .filterStep v => Sys2Proof.Machine.execFilterStep v s
  | .updateOutputs r => Sys2Proof.Machine.execUpdateOutputs r s

end Sys2Proof.Machine
end

