-- ==== Sys2Proof/Machine/Agents.lean ====
section
/-! DEFINITION. One turn of each agent (00_scope.md R12): the host's register accesses (20_memory.md R37 to R39), the Timer and the power-on poller. -/

namespace Sys2Proof.Machine

/-- Execute a command word once any hold has lifted (R55): the command it decodes to, or ILLEGAL. -/
def execWord (w : Word) (s : State) : Result :=
  match decode w with
  | .ok i => exec i s
  | .error _ => execIllegal s

/-- `RegRead(off)` (R37): the value, with no side effect, or an access fault. DESIGN CHOICE (log 27): a read
that completes while `POWERING_ON` raises `reg_ack`, although POWER_ON's own `CMD` write still holds. -/
def regRead (a : HostAccess) (s : State) : Result :=
  if a.wordSized then
    match s.readRegister a.off with
    | some v => .next (s.answer v)
    | none => .fault .accessFault
  else .fault .accessFault

/-- One turn of the host: its oldest access. A `CMD` write while `POWERING_ON` holds: it stays the oldest
(R30, R38). Any access that R39 forbids is an access fault. -/
def hostTurn (s : State) : Result :=
  match s.hostQueue with
  | [] => .next s
  | a :: rest =>
    if a.wr = false then regRead a (s.setHostQueue rest)
    else if a.wordSized = false ∨ a.off ≠ 0x00#6 then .fault .accessFault
    else if s.dev = .poweringOn then .next s
    else execWord a.wdata (s.setHostQueue rest)

/-- One turn of an agent, or block reset. -/
def takeTurn (t : Turn) (s : State) : Result :=
  match t with
  | .host => hostTurn s
  | .timer ready raw => exec (.tick ready raw) s
  | .poller ready => exec (.poll ready) s
  | .blockReset => .next s.blockReset

/-- One step of the block (R45): the outputs of the last step fall and the agent whose turn it is moves.
With no turn left, no agent moves (log 5). -/
def stepBlock (s : State) : Result :=
  match s.schedule with
  | [] => .next s.quiet
  | t :: rest => takeTurn t (s.quiet.setSchedule rest)

end Sys2Proof.Machine
end

