-- ==== Sys2Proof/Machine/Step.lean ====
section
/-! DEFINITION. The one step of the machine, and how a command word is put where the next step finds it. -/

namespace Sys2Proof.Machine

/-- One atomic step (20_memory.md R45). -/
def step : State → Host.Outcome State Fault Refusal := stepBlock

/-- The state in which the next step is the host's write of this command word to `CMD` (log 11). -/
def State.withFetchWord (s : State) (nbits w : Nat) : State := s.placeCommand (tableWord nbits w)

end Sys2Proof.Machine
end

