-- ==== Sys2Proof/Machine/Program.lean ====
section
/-! DEFINITION. The textual notation of 30_encoding.md R58 as data, and what each line puts before the block: a host access, a Timer event or a poll. -/

namespace Sys2Proof.Machine

/-- A line of R58's notation. -/
inductive AsmLine where
  | configure
  | powerOn
  | powerOff
  /-- `START <f_mHz>` -/
  | start (f : Nat)
  /-- `START <f>Hz` -/
  | startHz (f : ℚ)
  | stop
  /-- `.word <hex32>` -/
  | word (w : Word)
  /-- `@TICK ready=1 raw=<hex24>`, or `@TICK ready=0` -/
  | tick (answer : Option Sample)
  /-- `@POLL ready=<0|1>` -/
  | poll (ready : Bool)
  /-- `READ <REGNAME>`, the register by its offset (R29) -/
  | read (off : Offset)
  /-- `RESTART <f>`, the pseudo-instruction `STOP ; START <f>` -/
  | restart (f : Nat)
  deriving DecidableEq, Repr

/-- One move of the environment: a host access in the host's turn, or another agent's turn. -/
inductive Move where
  | access (a : HostAccess)
  | turn (t : Turn)
  deriving DecidableEq, Repr

/-- The word of `START f`, for `0 <= f <= 0xFFFFFF`. -/
def assembleStart (f : Nat) : Option Word :=
  if f < 2 ^ 24 then encode (.start (BitVec.ofNat 24 f)) else none

/-- The `f_mHz` of `START <f>Hz`: `f * 1000`, where that is an integer that is not negative (R58). -/
def milliHzOf (f : ℚ) : Option Nat :=
  if (f * 1000).den = 1 ∧ 0 ≤ (f * 1000).num then some (f * 1000).num.toNat else none

/-- The move of a command word. -/
def writeMove (w : Option Word) : Option (List Move) := w.map (fun v => [.access (commandWrite v)])

/-- What a line stands for (R58); `none` where its operand is outside the notation's range. -/
def assemble : AsmLine → Option (List Move)
  | .configure => writeMove (encode .configure)
  | .powerOn => writeMove (encode .powerOn)
  | .powerOff => writeMove (encode .powerOff)
  | .start f => writeMove (assembleStart f)
  | .startHz f => writeMove ((milliHzOf f).bind assembleStart)
  | .stop => writeMove (encode .stop)
  | .word w => writeMove (some w)
  | .tick (some raw) => some [.turn (.timer true raw)]
  | .tick none => some [.turn (.timer false 0#24)]
  | .poll ready => some [.turn (.poller ready)]
  | .read off => some [.access (registerRead off)]
  | .restart f => (assembleStart f).bind (fun w =>
      (encode .stop).map (fun v => [.access (commandWrite v), .access (commandWrite w)]))

/-- Append a move to what the environment will do: the accesses to the host's queue, the turns to the
schedule. -/
def State.schedMove (m : Move) (s : State) : State :=
  match m with
  | .access a => { s with hostQueue := s.hostQueue ++ [a], schedule := s.schedule ++ [.host] }
  | .turn t => { s with schedule := s.schedule ++ [t] }

/-- Append moves in order. -/
def State.schedMoves : List Move → State → State
  | [], s => s
  | m :: ms, s => State.schedMoves ms (s.schedMove m)

/-- Load a program in R58's notation: how a program comes to run from reset (log 11). `none` where a
line has no meaning. -/
def State.load : List AsmLine → State → Option State
  | [], s => some s
  | l :: ls, s => (assemble l).bind (fun ms => State.load ls (s.schedMoves ms))

end Sys2Proof.Machine
end

