-- ==== Sys2Proof/Safety.lean ====
section
/-! DEFINITION. The terms claims are stated in: a window's exact sums read from its list, the state that publishes them, the block's invariant, and safe runs. -/

namespace Sys2Proof.Machine

/-- Sample `i` of a window, as an integer. -/
def sampleAt (l : List Sample) (i : Nat) : Int := (l.getD i 0#24).toInt

/-- `Sy`, the sum of a window's samples (R66). -/
def windowSum (l : List Sample) : Int := (l.map BitVec.toInt).sum

/-- `Sxy`, the offset-weighted sum of a full window (R65). -/
def weightedSum (p : Params) (l : List Sample) : Int :=
  sumTo p.n (fun i => offsetX p i * sampleAt l i)

/-- `E_NUM` of a full window (R67). -/
def residualSum (p : Params) (l : List Sample) : Int := eNum p (sampleAt l)

/-- `s` with the outputs that R73 publishes for the full window `l`, in R68's integer form. -/
def State.publishing (l : List Sample) (s : State) : State :=
  { s with
    meanNum  := BitVec.ofInt 32 (windowSum l)
    trendNum := BitVec.ofInt 32 (weightedSum s.cfg l)
    stable   := decide (residualSum s.cfg l < s.cfg.ts * denE s.cfg) }

/-- R17, R99: the timer is armed exactly in `PERIODIC`, and then at a frequency in range. -/
abbrev State.LifecycleOk (s : State) : Prop :=
  (s.armed = true ↔ s.dev = .periodic) ∧
  (s.armed = true → 0 < s.freq.toNat) ∧ s.freq.toNat ≤ s.cfg.maxRate

/-- R20, R21: the length and the mode agree, and the undo record describes an append that happened. -/
abbrev State.WindowOk (s : State) : Prop :=
  s.len ≤ s.cfg.n ∧ (s.len < s.cfg.n ↔ s.mode = .filling) ∧
  (s.undo.kind = .grow → 0 < s.len) ∧ (s.undo.kind = .slide → s.len = s.cfg.n)

/-- R22, R77: no Rechecking where it does not exist; in it, `BACKUP` is the sample the next slide evicts. -/
abbrev State.RecheckOk (s : State) : Prop :=
  (s.cfg.recheckEn = false → s.mode ≠ .rechecking) ∧
  (s.mode = .rechecking → s.window.head? = some s.backup)

/-- R9, R88.3: the sentinel is nowhere in the filter. -/
abbrev State.NoSentinel (s : State) : Prop :=
  sentinel ∉ s.window ∧ s.backup ≠ sentinel ∧ s.undo.evicted ≠ sentinel

/-- R25, R75, R79.6: zero outputs while `FILLING`; afterwards the outputs are those of the window held. -/
abbrev State.OutputsOk (s : State) : Prop :=
  (s.mode = .filling → s.meanNum = 0#32 ∧ s.trendNum = 0#32 ∧ s.stable = false) ∧
  (s.mode ≠ .filling →
    s.meanNum = BitVec.ofInt 32 (windowSum s.window) ∧
    s.trendNum = BitVec.ofInt 32 (weightedSum s.cfg s.window) ∧
    s.stable = decide (residualSum s.cfg s.window < s.cfg.ts * denE s.cfg))

/-- What holds between steps of a legal instance. -/
abbrev State.Inv (s : State) : Prop :=
  s.cfg.Legal ∧ s.LifecycleOk ∧ s.WindowOk ∧ s.RecheckOk ∧ s.NoSentinel ∧ s.OutputsOk

/-- Nothing but the filter's own state (the window, `UNDO`, `MODE`, `BACKUP`, the outputs) and the model's
draw counter differs. -/
abbrev SameOutsideFilter (s t : State) : Prop :=
  t.cfg = s.cfg ∧ t.dev = s.dev ∧ t.armed = s.armed ∧ t.freq = s.freq ∧ t.result = s.result ∧
  t.signals = s.signals ∧ t.hostQueue = s.hostQueue ∧ t.schedule = s.schedule

/-- The filter's own state is the same (R79.3). -/
abbrev SameFilter (s t : State) : Prop :=
  t.window = s.window ∧ t.undo = s.undo ∧ t.mode = s.mode ∧ t.backup = s.backup ∧
  t.meanNum = s.meanNum ∧ t.trendNum = s.trendNum ∧ t.stable = s.stable

/-- A cell of R87's table: the new `DEV`, and the code written (`none`: held or pending). -/
abbrev Cell := Dev × Option ResultCode

/-- R87, column CONFIGURE. -/
def configureColumn : Dev → Cell
  | .uninitialized => (.configured, some .ok)
  | .configured => (.configured, some .noop)
  | .poweringOn => (.poweringOn, none)
  | .ready => (.ready, some .noop)
  | .periodic => (.periodic, some .noop)
  | .poweredOff => (.poweredOff, some .noop)

/-- R87, column POWER_ON. -/
def powerOnColumn : Dev → Cell
  | .uninitialized => (.uninitialized, some .noop)
  | .configured => (.poweringOn, none)
  | .poweringOn => (.poweringOn, none)
  | .ready => (.ready, some .noop)
  | .periodic => (.periodic, some .noop)
  | .poweredOff => (.poweringOn, none)

/-- R87, column POWER_OFF. -/
def powerOffColumn : Dev → Cell
  | .uninitialized => (.uninitialized, some .noop)
  | .configured => (.configured, some .noop)
  | .poweringOn => (.poweringOn, none)
  | .ready => (.poweredOff, some .ok)
  | .periodic => (.poweredOff, some .ok)
  | .poweredOff => (.poweredOff, some .noop)

/-- R87, columns START with a valid and with a bad frequency. -/
def startColumn (valid : Bool) : Dev → Cell
  | .uninitialized => (.uninitialized, some .notReady)
  | .configured => (.configured, some .notReady)
  | .poweringOn => (.poweringOn, none)
  | .ready => if valid then (.periodic, some .ok) else (.ready, some .badFrequency)
  | .periodic => (.periodic, some .alreadyRunning)
  | .poweredOff => (.poweredOff, some .notReady)

/-- R87, column STOP. -/
def stopColumn : Dev → Cell
  | .uninitialized => (.uninitialized, some .noop)
  | .configured => (.configured, some .noop)
  | .poweringOn => (.poweringOn, none)
  | .ready => (.ready, some .noop)
  | .periodic => (.ready, some .ok)
  | .poweredOff => (.poweredOff, some .noop)

/-- An outcome no command sequence may reach (R93): an internal fault. -/
abbrev Result.IsInternalFault (o : Result) : Prop := ∃ r, o = .fault (.internalFault r)

/-- An outcome of a safe run: a next state, or the access fault that R39 gives. -/
abbrev Result.Safe (o : Result) : Prop := (∃ t, o = .next t) ∨ o = .fault .accessFault

/-- `k` steps of the block, stopping at the first fault. -/
def runSteps : Nat → State → Result
  | 0, s => .next s
  | k + 1, s => andThen (step s) (runSteps k)

end Sys2Proof.Machine
end

