-- ==== Sys2Proof/Certificates/Slice0/Obligations.lean ====
section
/-! DEFINITION. The statements for the provers. -/

open Sys2Proof
open Sys2Proof.Machine

/-! ### The instance, its constants and reset -/

/-- R5, R32: an instance is built exactly for legal parameters, no step changes them, and the
configuration registers read as them. -/
def Obligations.InstanceParametersFixed : Prop :=
  (∀ p : Params,
    (p.n % 2 = 1 ∧ 3 ≤ p.n ∧ p.n ≤ 31 ∧ p.ts < 2 ^ 32 ∧ p.tr < 2 ^ 32 ∧ p.ta < 2 ^ 32 ∧
      1 ≤ p.maxRate ∧ p.maxRate ≤ 2 ^ 24 - 1 → instantiate p = .next (State.resetOf p)) ∧
    (¬(p.n % 2 = 1 ∧ 3 ≤ p.n ∧ p.n ≤ 31 ∧ p.ts < 2 ^ 32 ∧ p.tr < 2 ^ 32 ∧ p.ta < 2 ^ 32 ∧
      1 ≤ p.maxRate ∧ p.maxRate ≤ 2 ^ 24 - 1) → instantiate p = .refused .illegalInstance)) ∧
  (∀ s t : State, step s = .next t → t.cfg = s.cfg) ∧
  (∀ s : State, s.cfg.Legal →
    (∃ c, s.readRegister 0x18#6 = some c ∧ (c.extractLsb' 0 5).toNat = s.cfg.n ∧
      c.extractLsb' 5 3 = 0#3 ∧ c.extractLsb' 8 1 = BitVec.ofBool s.cfg.recheckEn ∧
      c.extractLsb' 9 23 = 0#23) ∧
    (∃ c, s.readRegister 0x1C#6 = some c ∧
      12 * c.toNat = (s.cfg.n - 1) * s.cfg.n * (s.cfg.n + 1)) ∧
    (∃ c, s.readRegister 0x20#6 = some c ∧ c.toNat = s.cfg.ts) ∧
    (∃ c, s.readRegister 0x24#6 = some c ∧ c.toNat = s.cfg.tr) ∧
    (∃ c, s.readRegister 0x28#6 = some c ∧ c.toNat = s.cfg.ta) ∧
    (∃ c, s.readRegister 0x2C#6 = some c ∧ c.toNat = s.cfg.maxRate))

/-- R6, R7: the offsets are symmetric integers, their sums are the derived constants, and the table's rows. -/
def Obligations.DerivedConstantsOfOffsets : Prop :=
  (∀ p : Params, p.Legal →
    2 * halfWidth p + 1 = p.n ∧
    (∀ i, i < p.n → offsetX p i = (i : Int) - halfWidth p ∧
      -(halfWidth p : Int) ≤ offsetX p i ∧ offsetX p i ≤ halfWidth p) ∧
    sumTo p.n (offsetX p) = 0 ∧
    sumTo p.n (fun i => offsetX p i ^ 2) = sxx p ∧
    12 * sxx p = (p.n - 1) * p.n * (p.n + 1) ∧
    (den p : Int) = p.n * sumTo p.n (fun i => offsetX p i ^ 2) - sumTo p.n (offsetX p) ^ 2 ∧
    den p = p.n * sxx p ∧ 0 < den p ∧ denE p = p.n * p.n * sxx p) ∧
  (∀ p : Params,
    (p.n = 3 → halfWidth p = 1 ∧ sxx p = 2 ∧ den p = 6 ∧ denE p = 18) ∧
    (p.n = 11 → halfWidth p = 5 ∧ sxx p = 110 ∧ den p = 1210 ∧ denE p = 13310) ∧
    (p.n = 21 → halfWidth p = 10 ∧ sxx p = 770 ∧ den p = 16170 ∧ denE p = 339570) ∧
    (p.n = 31 → halfWidth p = 15 ∧ sxx p = 2480 ∧ den p = 76880 ∧ denE p = 2383280))

/-- R8: the two named variants; both are legal, VARIANT_I2C for every legal rate cap. -/
def Obligations.NamedVariantsAreLegal : Prop :=
  Config.variantBB =
    { n := 11, ts := 250, tr := 10000, ta := 500, recheckEn := true, maxRate := 2000 } ∧
  Config.variantBB.Legal ∧
  ∀ sps, Config.variantI2C sps =
      { n := 21, ts := 200, tr := 10000, ta := 500, recheckEn := false, maxRate := sps } ∧
    (1 ≤ sps → sps ≤ 2 ^ 24 - 1 → (Config.variantI2C sps).Legal)

/-- R34, R104: the values after block reset. -/
def Obligations.BlockResetValues : Prop :=
  ∀ (p : Params) (t : State), t = State.resetOf p →
    t.cfg = p ∧ t.dev = .uninitialized ∧ t.armed = false ∧ t.freq = 0#24 ∧ t.result = .ok ∧
    t.result.code = 0#8 ∧ t.len = 0 ∧ t.undo = { kind := .none, evicted := 0#24 } ∧
    t.mode = .filling ∧ t.backup = 0#24 ∧ t.meanNum = 0#32 ∧ t.trendNum = 0#32 ∧
    t.stable = false ∧ t.statusWord = 0#32 ∧
    t.srcPwr = false ∧ t.signals.srcRd = false ∧ t.signals.srcCfg = false

/-- R104, R108: block reset of a running block leaves the same values, whatever the block was doing (that a
running block is reset by a turn is the model's form, log 12). -/
def Obligations.BlockResetOfRunningBlock : Prop :=
  ∀ (p : Params) (s t : State) (ts : List Turn), s.cfg = p → s.schedule = .blockReset :: ts →
    step s = .next t →
    t.cfg = p ∧ t.dev = .uninitialized ∧ t.armed = false ∧ t.freq = 0#24 ∧ t.result = .ok ∧
    t.result.code = 0#8 ∧ t.len = 0 ∧ t.undo = { kind := .none, evicted := 0#24 } ∧
    t.mode = .filling ∧ t.backup = 0#24 ∧ t.meanNum = 0#32 ∧ t.trendNum = 0#32 ∧
    t.stable = false ∧ t.statusWord = 0#32 ∧
    t.srcPwr = false ∧ t.signals.srcRd = false ∧ t.signals.srcCfg = false ∧
    t.hostQueue = s.hostQueue ∧ t.schedule = ts

/-! ### Registers -/

/-- R37, R29: a read of each register answers its contents and changes nothing else; every other offset has
no readable register. Two things are the model's choice: what stays of the schedule and the queue (log 2),
and, where `DEV` is POWERING_ON, that the read, which R95.2 enables (log 21), is acknowledged although
POWER_ON's own write still holds (log 27). -/
def Obligations.RegisterReadsAnswerContents : Prop :=
  (∀ (s : State) (off : Offset) (x v : Word) (rest : List HostAccess) (ts : List Turn),
    s.schedule = .host :: ts →
    s.hostQueue = { wr := false, off := off, size := 2#2, wdata := x } :: rest →
    s.readRegister off = some v →
    step s = .next { s with
      schedule := ts, hostQueue := rest, signals := { Signals.quiet with reply := .data v } }) ∧
  (∀ s : State,
    s.readRegister 0x04#6 = some (s.result.code.setWidth 32) ∧
    s.readRegister 0x08#6 = some s.statusWord ∧
    s.readRegister 0x0C#6 = some s.meanNum ∧
    s.readRegister 0x10#6 = some s.trendNum ∧
    s.readRegister 0x14#6 = some (s.freq.setWidth 32)) ∧
  (∀ (s : State) (off : Offset), s.readRegister off = none ↔
    off.extractLsb' 0 2 ≠ 0#2 ∨ 0x30 ≤ off.toNat ∨ off = 0x00#6)

/-- R39: a host access is an access fault exactly in the listed cases. -/
def Obligations.AccessFaultsExactly : Prop :=
  ∀ (s : State) (a : HostAccess) (rest : List HostAccess) (ts : List Turn),
    s.schedule = .host :: ts → s.hostQueue = a :: rest →
    (step s = .fault .accessFault ↔
      a.off.toNat % 4 ≠ 0 ∨ a.size ≠ 2#2 ∨ 0x30 ≤ a.off.toNat ∨
      (a.wr = false ∧ a.off = 0x00#6) ∨ (a.wr = true ∧ a.off ≠ 0x00#6))

/-- R31: the fields of STATUS, with the codes of R16 and R22, and its value after reset. -/
def Obligations.StatusWordFields : Prop :=
  (∀ s : State, s.len ≤ 31 →
    s.statusWord.extractLsb' 0 3 = s.dev.code ∧
    s.statusWord.extractLsb' 3 1 = BitVec.ofBool s.armed ∧
    s.statusWord.extractLsb' 4 2 = s.mode.code ∧
    s.statusWord.extractLsb' 6 1 = BitVec.ofBool s.stable ∧
    s.statusWord.extractLsb' 7 1 = (if s.mode = .rechecking then 1#1 else 0#1) ∧
    (s.statusWord.extractLsb' 8 5).toNat = s.len ∧
    s.statusWord.extractLsb' 13 19 = 0#19) ∧
  [Dev.uninitialized.code, Dev.configured.code, Dev.poweringOn.code, Dev.ready.code,
    Dev.periodic.code, Dev.poweredOff.code] = [0#3, 1#3, 2#3, 3#3, 4#3, 5#3] ∧
  [Mode.filling.code, Mode.tracking.code, Mode.rechecking.code] = [0#2, 1#2, 2#2] ∧
  (∀ p : Params, (State.resetOf p).readRegister 0x08#6 = some 0#32)

/-- R27: the 32-bit output registers hold the exact sums of a full window. -/
def Obligations.OutputRegistersHoldExactSums : Prop :=
  ∀ (p : Params) (l : List Sample), p.Legal → l.length = p.n →
    |windowSum l| ≤ p.n * 2 ^ 23 ∧
    4 * |weightedSum p l| ≤ (p.n ^ 2 - 1) * 2 ^ 23 ∧
    (BitVec.ofInt 32 (windowSum l)).toInt = windowSum l ∧
    (BitVec.ofInt 32 (weightedSum p l)).toInt = weightedSum p l

/-- R26: meanValue and trendValue of a primed block are the window's average and the fit's slope; before
that, and after a reset, both are 0. -/
def Obligations.OutputValuesAreMeanAndSlope : Prop :=
  ∀ s : State, s.Inv →
    (s.mode ≠ .filling →
      s.meanValue = (windowSum s.window : ℚ) / (s.cfg.n : ℚ) ∧
      s.trendValue = (weightedSum s.cfg s.window : ℚ) / (sxx s.cfg : ℚ) ∧
      ∃ t r, exec .regress s = .next t ∧ t.signals.regress = some r ∧ s.trendValue = r.a) ∧
    (s.mode = .filling → s.meanValue = 0 ∧ s.trendValue = 0) ∧
    (∃ t, exec .filterReset s = .next t ∧ t.meanValue = 0 ∧ t.trendValue = 0)

/-- R28: the output bundle carries what the registers read. -/
def Obligations.OutputBundleMatchesRegisters : Prop :=
  ∀ s : State,
    some s.outputs.meanNum = s.readRegister 0x0C#6 ∧
    some s.outputs.trendNum = s.readRegister 0x10#6 ∧
    some s.outputs.status = s.readRegister 0x08#6 ∧
    s.outputs.stable = s.stable

/-! ### Encoding -/

/-- R51, R54, R55: decode and encode agree, on every operation and on every word. -/
def Obligations.DecodeEncodeAgree : Prop :=
  (∀ i : Instr, i.format = .cmd → ∃ w, encode i = some w ∧ decode w = .ok i) ∧
  (∀ i : Instr, i.format ≠ .cmd → encode i = none ∧ ∀ w, decode w ≠ .ok i) ∧
  (∀ (w : Word) (i : Instr), decode w = .ok i → encode i = some w)

/-- R54: which words select which command. -/
def Obligations.WordsSelectCommands : Prop :=
  ∀ w : Word,
    (decode w = .ok .configure ↔ w.extractLsb' 24 8 = 0x01#8 ∧ w.extractLsb' 0 24 = 0#24) ∧
    (decode w = .ok .powerOn ↔ w.extractLsb' 24 8 = 0x02#8 ∧ w.extractLsb' 0 24 = 0#24) ∧
    (decode w = .ok .powerOff ↔ w.extractLsb' 24 8 = 0x03#8 ∧ w.extractLsb' 0 24 = 0#24) ∧
    (∀ f, decode w = .ok (.start f) ↔ w.extractLsb' 24 8 = 0x04#8 ∧ f = w.extractLsb' 0 24) ∧
    (decode w = .ok .stop ↔ w.extractLsb' 24 8 = 0x05#8 ∧ w.extractLsb' 0 24 = 0#24) ∧
    (∀ i, decode w = .ok i →
      i = .configure ∨ i = .powerOn ∨ i = .powerOff ∨ (∃ f, i = .start f) ∨ i = .stop)

/-- R56: the illegal words, and that one completes with ILLEGAL and changes nothing else. -/
def Obligations.IllegalWordsOnlyReport : Prop :=
  (∀ w : Word, (∃ e, decode w = .error e) ↔
    (w.extractLsb' 24 8 = 0x00#8 ∨ 0x06 ≤ (w.extractLsb' 24 8).toNat) ∨
    ((w.extractLsb' 24 8 = 0x01#8 ∨ w.extractLsb' 24 8 = 0x02#8 ∨ w.extractLsb' 24 8 = 0x03#8 ∨
      w.extractLsb' 24 8 = 0x05#8) ∧ w.extractLsb' 0 24 ≠ 0#24)) ∧
  (∀ (s : State) (w : Word) (e : DecodeError), decode w = .error e →
    execWord w s = .next { s with
      result := .illegal, signals := { s.signals with reply := .okAccess } }) ∧
  (∃ e, decode 0x00000000#32 = .error e) ∧ (∃ e, decode 0xFFFFFFFF#32 = .error e)

/-- Words written out from 30_encoding.md R58 and 95_test_vectors.md V-E1 to V-E12. -/
def Obligations.SampleWordsDecode : Prop :=
  decode 0x01000000#32 = .ok .configure ∧ decode 0x02000000#32 = .ok .powerOn ∧
  decode 0x03000000#32 = .ok .powerOff ∧ decode 0x040007D0#32 = .ok (.start 2000#24) ∧
  decode 0x04FFFFFF#32 = .ok (.start 16777215#24) ∧ decode 0x05000000#32 = .ok .stop ∧
  decode 0x05000001#32 = .error .nonzeroImm ∧ decode 0x01800000#32 = .error .nonzeroImm ∧
  decode 0x06000000#32 = .error .reservedOpcode

/-- R40: lane `j` of a word carries bits `[8j+7:8j]`, joining the four lanes gives the word back, and four
lanes decode as the word they carry. -/
def Obligations.ByteLanesCarryWord : Prop :=
  (∀ w : Word, ofLanes (w.extractLsb' 0 8) (w.extractLsb' 8 8) (w.extractLsb' 16 8)
    (w.extractLsb' 24 8) = w) ∧
  (∀ (w : Word) (rest : List Byte), decodeLanes (lanesOf w ++ rest) = some (decode w, rest)) ∧
  (∀ (w : Word) (j : Nat), j < 4 → (lanesOf w)[j]? = some (w.extractLsb' (8 * j) 8))

/-- R53: a raw code denotes its two's-complement integer, and only `0x7FFFFF` is special. -/
def Obligations.RawCodesDenoteIntegers : Prop :=
  ∀ v : Sample,
    sext24 v = (v.toNat : Int) - 2 ^ 24 * (v.extractLsb' 23 1).toNat ∧
    -2 ^ 23 ≤ sext24 v ∧ sext24 v ≤ 2 ^ 23 - 1 ∧
    (isSentinel v = true ↔ v = 0x7FFFFF#24) ∧
    (sext24 v = 8388607 ↔ v = 0x7FFFFF#24) ∧ (sext24 v = -8388608 ↔ v = 0x800000#24)

/-- R58: the notation's commands stand for these words; RESTART is STOP, then START. -/
def Obligations.NotationStandsForWords : Prop :=
  assemble .configure = some [.access (commandWrite 0x01000000#32)] ∧
  assemble .powerOn = some [.access (commandWrite 0x02000000#32)] ∧
  assemble .powerOff = some [.access (commandWrite 0x03000000#32)] ∧
  assemble .stop = some [.access (commandWrite 0x05000000#32)] ∧
  (∀ f : Nat, f ≤ 0xFFFFFF →
    assemble (.start f) = some [.access (commandWrite (0x04000000#32 ||| BitVec.ofNat 32 f))] ∧
    assemble (.restart f) = some [.access (commandWrite 0x05000000#32),
      .access (commandWrite (0x04000000#32 ||| BitVec.ofNat 32 f))]) ∧
  (∀ w, assemble (.word w) = some [.access (commandWrite w)]) ∧
  (∀ raw, assemble (.tick (some raw)) = some [.turn (.timer true raw)]) ∧
  assemble (.tick none) = some [.turn (.timer false 0#24)] ∧
  (∀ ready, assemble (.poll ready) = some [.turn (.poller ready)]) ∧
  (∀ off, assemble (.read off) = some [.access (registerRead off)]) ∧
  (∀ f : ℚ, ∀ k : Nat, f * 1000 = k → assemble (.startHz f) = assemble (.start k))

/-! ### A step runs what is next -/

/-- R38: a host write is an access fault off `CMD`, holds while POWERING_ON, and else executes its
word. -/
def Obligations.CommandWriteExecutesItsWord : Prop :=
  ∀ (s : State) (a : HostAccess) (rest : List HostAccess) (ts : List Turn),
    s.schedule = .host :: ts → s.hostQueue = a :: rest → a.wr = true → a.size = 2#2 →
    (a.off ≠ 0x00#6 → step s = .fault .accessFault) ∧
    (a.off = 0x00#6 → s.dev = .poweringOn →
      step s = .next { s with schedule := ts, signals := Signals.quiet }) ∧
    (a.off = 0x00#6 → s.dev ≠ .poweringOn →
      (∀ i, decode a.wdata = .ok i →
        step s = exec i { s with schedule := ts, hostQueue := rest, signals := Signals.quiet }) ∧
      (∀ e, decode a.wdata = .error e →
        step s = .next { s with
          result := .illegal, schedule := ts, hostQueue := rest,
          signals := { Signals.quiet with reply := .okAccess } }))

/-- R12, R45: a turn of the Timer is a TICK, of the poller a POLL, with the answers it carries; a turn of
a host with no access, or no turn at all, changes nothing (logs 2, 5). -/
def Obligations.EventTurnsRunEvents : Prop :=
  ∀ (s : State) (ts : List Turn),
    (∀ ready raw, s.schedule = .timer ready raw :: ts →
      step s = exec (.tick ready raw) { s with schedule := ts, signals := Signals.quiet }) ∧
    (∀ ready, s.schedule = .poller ready :: ts →
      step s = exec (.poll ready) { s with schedule := ts, signals := Signals.quiet }) ∧
    (s.schedule = .host :: ts → s.hostQueue = [] →
      step s = .next { s with schedule := ts, signals := Signals.quiet }) ∧
    (s.schedule = [] → step s = .next { s with signals := Signals.quiet })

/-! ### Commands and events -/

/-- R80, with its encoding. -/
def Obligations.ConfigureResult : Prop :=
  decode 0x01000000#32 = .ok .configure ∧
  ∀ s : State,
    (s.dev = .uninitialized → exec .configure s = .next { s with
      dev := .configured, result := .ok,
      signals := { s.signals with srcCfg := true, reply := .okAccess } }) ∧
    (s.dev ≠ .uninitialized → s.dev ≠ .poweringOn → exec .configure s = .next { s with
      result := .noop, signals := { s.signals with reply := .okAccess } })

/-- R81, with its encoding: from CONFIGURED or POWERED_OFF the command is pending and writes no RESULT. -/
def Obligations.PowerOnResult : Prop :=
  decode 0x02000000#32 = .ok .powerOn ∧
  ∀ s : State,
    (s.dev = .configured ∨ s.dev = .poweredOff →
      exec .powerOn s = .next { s with dev := .poweringOn }) ∧
    (s.dev = .uninitialized ∨ s.dev = .ready ∨ s.dev = .periodic → exec .powerOn s = .next { s with
      result := .noop, signals := { s.signals with reply := .okAccess } })

/-- R82: the completing poll and the others. -/
def Obligations.PollResult : Prop :=
  ∀ s : State,
    (s.dev = .poweringOn → exec (.poll true) s = .next { s with
      dev := .ready, result := .ok, signals := { s.signals with reply := .okAccess } }) ∧
    (s.dev = .poweringOn → exec (.poll false) s = .next s)

/-- R83, with its encoding. -/
def Obligations.PowerOffResult : Prop :=
  decode 0x03000000#32 = .ok .powerOff ∧
  ∀ s : State,
    (s.dev = .ready ∨ s.dev = .periodic → exec .powerOff s = .next { s with
      armed := false, dev := .poweredOff, result := .ok,
      signals := { s.signals with reply := .okAccess } }) ∧
    (s.dev = .uninitialized ∨ s.dev = .configured ∨ s.dev = .poweredOff →
      exec .powerOff s = .next { s with
        result := .noop, signals := { s.signals with reply := .okAccess } })

/-- R84, R95.3, with its encoding: the first failure that applies is reported and changes RESULT only; a success resets the
filter and arms the timer. -/
def Obligations.StartResult : Prop :=
  ∀ (s : State) (f : MilliHz),
    decode (0x04000000#32 ||| f.setWidth 32) = .ok (.start f) ∧
    (s.dev = .periodic → exec (.start f) s = .next { s with
      result := .alreadyRunning, signals := { s.signals with reply := .okAccess } }) ∧
    (s.dev ≠ .periodic → s.dev ≠ .ready → s.dev ≠ .poweringOn → exec (.start f) s = .next { s with
      result := .notReady, signals := { s.signals with reply := .okAccess } }) ∧
    (s.dev = .ready → f.toNat = 0 ∨ s.cfg.maxRate < f.toNat → exec (.start f) s = .next { s with
      result := .badFrequency, signals := { s.signals with reply := .okAccess } }) ∧
    (s.dev = .ready → 0 < f.toNat → f.toNat ≤ s.cfg.maxRate → exec (.start f) s = .next { s with
      window := [], undo := { kind := .none, evicted := 0#24 }, mode := .filling, backup := 0#24,
      meanNum := 0#32, trendNum := 0#32, stable := false,
      freq := f, dev := .periodic, armed := true, result := .ok,
      signals := { s.signals with reply := .okAccess } })

/-- R85, with its encoding. -/
def Obligations.StopResult : Prop :=
  decode 0x05000000#32 = .ok .stop ∧
  ∀ s : State,
    (s.dev = .periodic → exec .stop s = .next { s with
      armed := false, dev := .ready, result := .ok,
      signals := { s.signals with reply := .okAccess } }) ∧
    (s.dev ≠ .periodic → s.dev ≠ .poweringOn → exec .stop s = .next { s with
      result := .noop, signals := { s.signals with reply := .okAccess } })

/-- R86: TICK, undelivered, not ready, with the sentinel, and with an accepted sample. -/
def Obligations.TickResult : Prop :=
  ∀ (s : State) (raw : Sample),
    (∀ ready, s.armed = false → exec (.tick ready raw) s = .next s) ∧
    (s.armed = true → exec (.tick false raw) s = .next s) ∧
    (s.armed = true → exec (.tick true 0x7FFFFF#24) s = .next { s with
      signals := { s.signals with srcRd := true } }) ∧
    (s.armed = true → raw ≠ 0x7FFFFF#24 → exec (.tick true raw) s = exec (.filterStep raw) { s with
      signals := { s.signals with srcRd := true } })

/-- R87: every cell of the lifecycle table. -/
def Obligations.LifecycleTableHolds : Prop :=
  (∀ (s : State) (f : MilliHz) (i : Instr) (c : Cell),
    (i = .configure ∧ c = configureColumn s.dev) ∨ (i = .powerOn ∧ c = powerOnColumn s.dev) ∨
    (i = .powerOff ∧ c = powerOffColumn s.dev) ∨
    (i = .start f ∧ c = startColumn (decide (0 < f.toNat ∧ f.toNat ≤ s.cfg.maxRate)) s.dev) ∨
    (i = .stop ∧ c = stopColumn s.dev) →
    ∃ t, exec i s = .next t ∧ t.dev = c.1 ∧ t.result = c.2.getD s.result) ∧
  (∀ s : State, s.LifecycleOk → ∀ ready raw,
    (s.dev ≠ .periodic → exec (.tick ready raw) s = .next s) ∧
    (s.dev = .periodic → raw ≠ 0x7FFFFF#24 → exec (.tick true raw) s = exec (.filterStep raw) { s with
      signals := { s.signals with srcRd := true } })) ∧
  (∀ s : State, s.dev = .poweringOn →
    ∃ t, exec (.poll true) s = .next t ∧ t.dev = .ready ∧ t.result = .ok)

/-- A command that meets POWERING_ON is held (R30, R87), and a poll anywhere else is not enabled (R82); at
the level of `exec` both change nothing, which is the model's form (logs 3, 4). -/
def Obligations.StepsNotEnabledChangeNothing : Prop :=
  (∀ (s : State) (f : MilliHz), s.dev = .poweringOn →
    exec .configure s = .next s ∧ exec .powerOn s = .next s ∧ exec .powerOff s = .next s ∧
    exec (.start f) s = .next s ∧ exec .stop s = .next s) ∧
  (∀ (s : State) (ready : Bool), s.dev ≠ .poweringOn → exec (.poll ready) s = .next s)

/-- R16, R88.5: the only operations that change DEV, and the only transitions. -/
def Obligations.DevTransitionsExactly : Prop :=
  ∀ (i : Instr) (s t : State), exec i s = .next t →
    t.dev = s.dev ∨
    (i = .configure ∧ s.dev = .uninitialized ∧ t.dev = .configured) ∨
    (i = .powerOn ∧ (s.dev = .configured ∨ s.dev = .poweredOff) ∧ t.dev = .poweringOn) ∨
    (i = .poll true ∧ s.dev = .poweringOn ∧ t.dev = .ready) ∨
    (i = .powerOff ∧ (s.dev = .ready ∨ s.dev = .periodic) ∧ t.dev = .poweredOff) ∨
    (∃ f, i = .start f ∧ s.dev = .ready ∧ t.dev = .periodic) ∨
    (i = .stop ∧ s.dev = .periodic ∧ t.dev = .ready)

/-- R18: only a START that writes OK writes FREQ, and it writes its operand. -/
def Obligations.FrequencyWrittenOnlyByStart : Prop :=
  ∀ (i : Instr) (s t : State), exec i s = .next t → t.freq ≠ s.freq →
    ∃ f, i = .start f ∧ t.freq = f ∧ t.result = .ok ∧ t.dev = .periodic ∧
      0 < f.toNat ∧ f.toNat ≤ s.cfg.maxRate

/-- R90: the codes, that OK alone is the source's true, and that a command which completes with any
other code changes RESULT alone (besides acknowledging the write). -/
def Obligations.FailureCodesChangeResultOnly : Prop :=
  (∀ (i : Instr) (s t : State), s.signals.reply = .idle → exec i s = .next t →
    t.signals.reply = .okAccess → t.result ≠ .ok →
    t = { s with result := t.result, signals := { s.signals with reply := .okAccess } }) ∧
  [ResultCode.ok.code, ResultCode.noop.code, ResultCode.notReady.code,
    ResultCode.alreadyRunning.code, ResultCode.badFrequency.code, ResultCode.illegal.code] =
    [0#8, 1#8, 2#8, 3#8, 4#8, 5#8] ∧
  (∀ c : ResultCode, c.returned = true ↔ c = .ok)

/-- R19: only a command that completes writes RESULT; ticks, idle polls and the filter do not. -/
def Obligations.ResultWrittenOnlyByCompletion : Prop :=
  ∀ (i : Instr) (s t : State), exec i s = .next t → t.result ≠ s.result →
    t.signals.reply = .okAccess ∧
    (i.format = .cmd ∨ (i = .poll true ∧ s.dev = .poweringOn))

/-- R86, R111: after a STOP or POWER_OFF that is not held, no TICK does anything. -/
def Obligations.NoTickAfterStopOrPowerOff : Prop :=
  ∀ (s t : State) (i : Instr), s.LifecycleOk → s.dev ≠ .poweringOn → i = .stop ∨ i = .powerOff →
    exec i s = .next t → t.armed = false ∧ ∀ ready raw, exec (.tick ready raw) t = .next t

/-- R100: `src_pwr` is high exactly in the powered states, `src_rd` pulses exactly for a delivered ready
TICK, and `src_cfg` exactly for a CONFIGURE from UNINITIALIZED. -/
def Obligations.SourceSignals : Prop :=
  (∀ s : State, s.srcPwr = true ↔ s.dev = .poweringOn ∨ s.dev = .ready ∨ s.dev = .periodic) ∧
  (∀ s t : State, step s = .next t →
    (t.signals.srcRd = true ↔
      s.armed = true ∧ ∃ raw ts, s.schedule = .timer true raw :: ts) ∧
    (t.signals.srcCfg = true ↔
      s.dev = .uninitialized ∧ ∃ a ts rest, s.schedule = .host :: ts ∧ s.hostQueue = a :: rest ∧
        a.wr = true ∧ decode a.wdata = .ok .configure))

/-! ### sliding_window_buffer -/

/-- R60, both phases. -/
def Obligations.WinAppendResult : Prop :=
  ∀ (s : State) (v : Sample),
    (s.len < s.cfg.n → exec (.winAppend v) s = .next { s with
      window := s.window ++ [v], undo := { kind := .grow, evicted := 0#24 } }) ∧
    (∀ w0 l, s.window = w0 :: l → s.len = s.cfg.n → exec (.winAppend v) s = .next { s with
      window := l ++ [v], undo := { kind := .slide, evicted := w0 } })

/-- R61. -/
def Obligations.WinReplaceLastResult : Prop :=
  ∀ (s : State) (v : Sample),
    (s.len = 0 → exec (.winReplaceLast v) s = .fault (.internalFault .replaceEmpty)) ∧
    (∀ l x, s.window = l ++ [x] → exec (.winReplaceLast v) s = .next { s with
      window := l ++ [v], undo := { s.undo with kind := .none } })

/-- R62. -/
def Obligations.WinPopLastUndoResult : Prop :=
  ∀ s : State,
    (s.undo.kind = .none → exec .winPopLastUndo s = .fault (.internalFault .undoEmpty)) ∧
    (∀ l x, s.window = l ++ [x] → s.undo.kind = .grow → exec .winPopLastUndo s = .next { s with
      window := l, undo := { s.undo with kind := .none } }) ∧
    (∀ l x, s.window = l ++ [x] → s.undo.kind = .slide → exec .winPopLastUndo s = .next { s with
      window := s.undo.evicted :: l, undo := { s.undo with kind := .none } })

/-- R63: no operation exceeds the capacity, N appends fill an empty window in order, an append in the
steady state shifts, and an append followed by its undo restores the window. -/
def Obligations.WindowBufferProperties : Prop :=
  (∀ (i : Instr) (s t : State), s.WindowOk → 0 < s.cfg.n → exec i s = .next t → t.len ≤ t.cfg.n) ∧
  (∀ (s : State) (l : List Sample), s.window = [] → l.length = s.cfg.n → 0 < s.cfg.n →
    ∃ t, l.foldl (fun o v => andThen o (exec (.winAppend v))) (.next s) = .next t ∧
      t.len = s.cfg.n ∧ t.window = l) ∧
  (∀ (s : State) (v : Sample), s.len = s.cfg.n → 0 < s.cfg.n →
    ∃ t, exec (.winAppend v) s = .next t ∧ t.window = s.window.drop 1 ++ [v]) ∧
  (∀ (s : State) (v : Sample), s.len ≤ s.cfg.n → 0 < s.cfg.n →
    ∃ t, andThen (exec (.winAppend v) s) (exec .winPopLastUndo) = .next t ∧
      t.window = s.window ∧ t.len = s.len)

/-! ### regression_engine -/

/-- R64: REGRESS is the source's least-squares formulas on the full window, zero for at most two samples,
and a fault between. It changes nothing but the result it hands its caller (log 7). -/
def Obligations.RegressIsLeastSquaresFit : Prop :=
  ∀ s : State, s.cfg.Legal →
    (s.len ≤ 2 → exec .regress s = .next { s with
      signals := { s.signals with regress := some { a := 0, b := 0, e := 0 } } }) ∧
    (3 ≤ s.len → s.len < s.cfg.n → exec .regress s = .fault (.internalFault .partialWindow)) ∧
    (s.len = s.cfg.n → ∃ r, exec .regress s = .next { s with
        signals := { s.signals with regress := some r } } ∧
      ∀ (x y : Nat → ℚ) (m : ℚ), (∀ i, x i = i - (s.cfg.n - 1) / 2) →
        (∀ i, y i = ((s.window.getD i 0#24).toInt : ℚ)) → m = s.cfg.n →
        0 < m * (∑ i ∈ Finset.range s.cfg.n, x i ^ 2) - (∑ i ∈ Finset.range s.cfg.n, x i) ^ 2 ∧
        r.a = (m * (∑ i ∈ Finset.range s.cfg.n, x i * y i) -
            (∑ i ∈ Finset.range s.cfg.n, x i) * (∑ i ∈ Finset.range s.cfg.n, y i)) /
          (m * (∑ i ∈ Finset.range s.cfg.n, x i ^ 2) - (∑ i ∈ Finset.range s.cfg.n, x i) ^ 2) ∧
        r.b = ((∑ i ∈ Finset.range s.cfg.n, x i ^ 2) * (∑ i ∈ Finset.range s.cfg.n, y i) -
            (∑ i ∈ Finset.range s.cfg.n, x i) * (∑ i ∈ Finset.range s.cfg.n, x i * y i)) /
          (m * (∑ i ∈ Finset.range s.cfg.n, x i ^ 2) - (∑ i ∈ Finset.range s.cfg.n, x i) ^ 2) ∧
        r.e = 1 / m * ∑ i ∈ Finset.range s.cfg.n, |y i - (r.a * x i + r.b)|)

/-- R65, R66, R67: the slope, the intercept and the residual of a full window as quotients of integers. -/
def Obligations.RegressClosedForms : Prop :=
  ∀ s : State, s.cfg.Legal → s.len = s.cfg.n →
    ∃ t r, exec .regress s = .next t ∧ t.signals.regress = some r ∧
      r.a = (weightedSum s.cfg s.window : ℚ) / (sxx s.cfg : ℚ) ∧
      r.b = (windowSum s.window : ℚ) / (s.cfg.n : ℚ) ∧
      r.e = ((∑ i ∈ Finset.range s.cfg.n,
        |(s.cfg.n * sxx s.cfg : Int) * sampleAt s.window i -
          s.cfg.n * weightedSum s.cfg s.window * offsetX s.cfg i -
          sxx s.cfg * windowSum s.window| : Int) : ℚ) / ((s.cfg.n * s.cfg.n * sxx s.cfg : Nat) : ℚ)

/-- R68: each threshold decision on the exact residual is the strict integer comparison. -/
def Obligations.ThresholdsCompareExactly : Prop :=
  ∀ (s t : State) (r : RegressionResult), s.cfg.Legal → s.len = s.cfg.n →
    exec .regress s = .next t → t.signals.regress = some r →
    (∀ T : Nat, (r.e < (T : ℚ) ↔ residualSum s.cfg s.window < T * denE s.cfg) ∧
      ((T : ℚ) < r.e ↔ T * denE s.cfg < residualSum s.cfg s.window)) ∧
    (stableRule s.cfg r.e = true ↔ residualSum s.cfg s.window < s.cfg.ts * denE s.cfg) ∧
    (suspectRule s.cfg r.e = true ↔
      s.cfg.recheckEn = true ∧ s.cfg.tr * denE s.cfg < residualSum s.cfg s.window) ∧
    (acceptRule s.cfg r.e = true ↔ residualSum s.cfg s.window < s.cfg.ta * denE s.cfg)

/-- R69, the five properties of REGRESS. -/
def Obligations.RegressProperties : Prop :=
  (∀ s : State, s.len ≤ 2 → ∃ t, exec .regress s = .next t ∧
    t.signals.regress = some { a := 0, b := 0, e := 0 }) ∧
  (∀ s : State, s.cfg.Legal → s.len = s.cfg.n →
    ∃ t r, exec .regress s = .next t ∧ t.signals.regress = some r ∧
      (∀ m k : ℚ, (∀ i, i < s.cfg.n → (sampleAt s.window i : ℚ) = m * offsetX s.cfg i + k) →
        r = { a := m, b := k, e := 0 }) ∧
      (∀ c : Int, (∀ i, i < s.cfg.n → sampleAt s.window i = c) → r = { a := 0, b := c, e := 0 }) ∧
      0 ≤ r.e ∧
      (r.e = 0 ↔ ∃ m k : ℚ, ∀ i, i < s.cfg.n → (sampleAt s.window i : ℚ) = m * offsetX s.cfg i + k) ∧
      ∀ (u : State) (c : Int), u.cfg = s.cfg → u.len = s.cfg.n →
        (∀ i, i < s.cfg.n → sampleAt u.window i = sampleAt s.window i + c) →
        ∃ t', exec .regress u = .next t' ∧
          t'.signals.regress = some { a := r.a, b := r.b + c, e := r.e })

/-- R70: the widths of the exact integers of a full window. -/
def Obligations.IntermediateWidths : Prop :=
  ∀ (p : Params) (l : List Sample), p.Legal → l.length = p.n →
    |windowSum l| ≤ 2 ^ 28 ∧ |weightedSum p l| ≤ 240 * 2 ^ 23 ∧
    (∀ i, i < p.n → |residualNum p (sampleAt l) i| < 2 ^ 42) ∧
    residualSum p l < 2 ^ 47 ∧
    ∀ T : Nat, T < 2 ^ 32 → T * denE p < 2 ^ 32 * 2383280 ∧ T * denE p < 2 ^ 54

/-! ### drift_filter -/

/-- R72. -/
def Obligations.FilterResetResult : Prop :=
  ∀ s : State, exec .filterReset s = .next { s with
    window := [], undo := { kind := .none, evicted := 0#24 }, mode := .filling, backup := 0#24,
    meanNum := 0#32, trendNum := 0#32, stable := false }

/-- R73: UPDATE_OUTPUTS publishes the sums of a full window and the stability of the result it is given. -/
def Obligations.UpdateOutputsResult : Prop :=
  ∀ (s : State) (r : RegressionResult), s.len = s.cfg.n →
    exec (.updateOutputs r) s = .next { s with
      meanNum := BitVec.ofInt 32 (windowSum s.window),
      trendNum := BitVec.ofInt 32 (weightedSum s.cfg s.window),
      stable := decide (r.e < (s.cfg.ts : ℚ)) }

/-- UPDATE_OUTPUTS on any window: it completes, sets STABLE by R73's rule, and changes only the outputs and the
draw counter. What the sums of a window that is not full are is free, which is the model's choice (log 8). -/
def Obligations.UpdateOutputsAlwaysCompletes : Prop :=
  ∀ (s : State) (r : RegressionResult),
    ∃ t, exec (.updateOutputs r) s = .next t ∧ t.stable = decide (r.e < (s.cfg.ts : ℚ)) ∧
      t = { s with meanNum := t.meanNum, trendNum := t.trendNum, stable := t.stable,
                   freeDraws := t.freeDraws }

/-- R75: the Filling step, before and at the sample that primes the window. -/
def Obligations.FillStepResult : Prop :=
  ∀ (s : State) (v : Sample), s.mode = .filling → s.cfg.Legal →
    (s.len + 1 < s.cfg.n → exec (.filterStep v) s = .next { s with
      window := s.window ++ [v], undo := { kind := .grow, evicted := 0#24 } }) ∧
    (s.len + 1 = s.cfg.n → exec (.filterStep v) s = .next { s.publishing (s.window ++ [v]) with
      window := s.window ++ [v], undo := { kind := .grow, evicted := 0#24 }, mode := .tracking })

/-- R76, R77: the Tracking step; on a suspect window BACKUP is the sample the next slide evicts. -/
def Obligations.TrackStepResult : Prop :=
  ∀ (s : State) (v w0 w1 : Sample) (l : List Sample), s.mode = .tracking → s.cfg.Legal →
    s.len = s.cfg.n → s.window = w0 :: w1 :: l →
    (s.cfg.recheckEn = true ∧
        s.cfg.tr * denE s.cfg < residualSum s.cfg (w1 :: (l ++ [v])) →
      exec (.filterStep v) s = .next { s.publishing (w1 :: (l ++ [v])) with
        window := w1 :: (l ++ [v]), undo := { kind := .slide, evicted := w0 },
        backup := w1, mode := .rechecking }) ∧
    (¬(s.cfg.recheckEn = true ∧
        s.cfg.tr * denE s.cfg < residualSum s.cfg (w1 :: (l ++ [v]))) →
      exec (.filterStep v) s = .next { s.publishing (w1 :: (l ++ [v])) with
        window := w1 :: (l ++ [v]), undo := { kind := .slide, evicted := w0 } })

/-- R78: the Rechecking step, accept and rollback; the mode is TRACKING after both. -/
def Obligations.RecheckStepResult : Prop :=
  ∀ (s : State) (v w1 x : Sample) (m : List Sample), s.mode = .rechecking → s.cfg.Legal →
    s.len = s.cfg.n → s.window = w1 :: (m ++ [x]) →
    (residualSum s.cfg (m ++ [x, v]) < s.cfg.ta * denE s.cfg →
      exec (.filterStep v) s = .next { s.publishing (m ++ [x, v]) with
        window := m ++ [x, v], undo := { kind := .slide, evicted := w1 }, mode := .tracking }) ∧
    (s.cfg.ta * denE s.cfg ≤ residualSum s.cfg (m ++ [x, v]) →
      exec (.filterStep v) s = .next { s.publishing (m ++ [s.backup, v]) with
        window := m ++ [s.backup, v], undo := { kind := .slide, evicted := w1 },
        mode := .tracking })

/-- R86, R74: in every state that meets the invariant and is armed, an accepted sample completes its TICK,
is the newest in the window, and touches nothing outside the filter but the read strobe. -/
def Obligations.AcceptedTickCompletes : Prop :=
  ∀ (s : State) (raw : Sample), s.Inv → s.armed = true → raw ≠ sentinel →
    ∃ t, exec (.tick true raw) s = .next t ∧ t.window.getLast? = some raw ∧
      t.len = min s.cfg.n (s.len + 1) ∧
      SameOutsideFilter { s with signals := { s.signals with srcRd := true } } t ∧
      t.freeDraws = s.freeDraws

/-- The frame of the internal operations: none touches DEV, ARMED, FREQ, RESULT, the parameters or what the
environment has still to do (R16, R72, R79). Only REGRESS's hand-over touches a signal. -/
def Obligations.InternalOperationsFrame : Prop :=
  ∀ (i : Instr) (s t : State), i.format = .internal → exec i s = .next t →
    t.cfg = s.cfg ∧ t.dev = s.dev ∧ t.armed = s.armed ∧ t.freq = s.freq ∧ t.result = s.result ∧
    t.hostQueue = s.hostQueue ∧ t.schedule = s.schedule ∧
    (i ≠ .regress → t.signals = s.signals) ∧
    (i = .regress → SameFilter s t ∧ t.freeDraws = s.freeDraws ∧
      t.signals = { s.signals with regress := t.signals.regress })

/-- R79.1: Rechecking lasts exactly until the next accepted sample. -/
def Obligations.RecheckingLastsOneAcceptedSample : Prop :=
  ∀ (s : State) (raw : Sample), s.Inv → s.armed = true → s.mode = .rechecking →
    (raw ≠ sentinel → ∃ t, exec (.tick true raw) s = .next t ∧ t.mode = .tracking) ∧
    (∃ t, exec (.tick true sentinel) s = .next t ∧ SameFilter s t) ∧
    (∃ t, exec (.tick false raw) s = .next t ∧ SameFilter s t)

/-- R79.3: only an accepted sample, a START that succeeds, or block reset changes the filter. -/
def Obligations.FilterChangesOnlyByAcceptedSampleOrReset : Prop :=
  ∀ s t : State, step s = .next t → ¬SameFilter s t →
    (∃ raw ts, s.schedule = .timer true raw :: ts ∧ s.armed = true ∧ raw ≠ sentinel) ∨
    (∃ a f ts rest, s.schedule = .host :: ts ∧ s.hostQueue = a :: rest ∧ a.wr = true ∧
      decode a.wdata = .ok (.start f) ∧ s.dev = .ready ∧ t.result = .ok ∧ t.mode = .filling) ∨
    (∃ ts, s.schedule = .blockReset :: ts)

/-! ### The whole machine -/

/-- The state after reset meets the invariant, for every legal instance. -/
def Obligations.ResetMeetsInvariant : Prop :=
  (∀ p : Params, p.Legal → (State.resetOf p).Inv) ∧ State.reset.Inv

/-- Every step keeps the invariant: R17 (armed exactly in PERIODIC), R20 (length and mode agree), R22 (no
Rechecking where it is disabled), R77 (BACKUP), R88.3 (no sentinel in the window), R79.6 and R25 (the
outputs are zero while FILLING and then those of the window held). -/
def Obligations.StepKeepsInvariant : Prop :=
  ∀ s t : State, s.Inv → step s = .next t → t.Inv

/-- R93: no sequence of accesses, ticks, polls and resets reaches an internal fault, or a refusal. -/
def Obligations.NoSequenceFaultsInternally : Prop :=
  ∀ (k : Nat) (s : State), s.Inv → Result.Safe (runSteps k s)

/-- R108: while no poll finds the SampleSource ready and the block is not reset, POWERING_ON lasts, RESULT
is not written, and the filter stands still. -/
def Obligations.PowerOnHangs : Prop :=
  ∀ (k : Nat) (s t : State), s.Inv → s.dev = .poweringOn →
    (∀ u ∈ s.schedule, u ≠ .poller true ∧ u ≠ .blockReset) → runSteps k s = .next t →
    t.dev = .poweringOn ∧ t.result = s.result ∧ SameFilter s t ∧ t.freq = s.freq ∧
    (∀ a rest, s.hostQueue = a :: rest → a.wr = true → t.hostQueue = s.hostQueue)

/-- R63.2, R75, R106: from an empty window, N accepted ticks prime the window with exactly those samples
and publish their sums. -/
def Obligations.FirstWindowIsPublished : Prop :=
  ∀ (s : State) (l : List Sample) (ts : List Turn), s.Inv → s.armed = true → s.window = [] →
    l.length = s.cfg.n → sentinel ∉ l →
    s.schedule = l.map (fun v => .timer true v) ++ ts →
    ∃ t, runSteps s.cfg.n s = .next t ∧ t.window = l ∧ t.mode = .tracking ∧ t.schedule = ts ∧
      t.meanNum.toInt = windowSum l ∧ t.trendNum.toInt = weightedSum s.cfg l ∧
      t.stable = decide (residualSum s.cfg l < s.cfg.ts * denE s.cfg)

/-- R33: no step's observable effect depends on BACKUP outside Rechecking, on UNDO.evicted, or on the
model's draw counter. -/
def Obligations.HiddenStateIsNotRead : Prop :=
  ∀ (s t : State) (b e : Sample) (d : Nat), s.Inv →
    (s.mode = .rechecking → b = s.backup) →
    step s = .next t →
    ∃ t', step { s with backup := b, undo := { s.undo with evicted := e }, freeDraws := d } =
        .next t' ∧
      SameOutsideFilter t t' ∧ t'.window = t.window ∧ t'.undo.kind = t.undo.kind ∧
      t'.mode = t.mode ∧ t'.meanNum = t.meanNum ∧ t'.trendNum = t.trendNum ∧
      t'.stable = t.stable ∧ (t.mode = .rechecking → t'.backup = t.backup)
end

