-- ==== Sys2Proof/Laws/Encoding.lean ====
section
/-! SUPPORT. The fields of a command word (30_encoding.md R51), and what the decoder can answer (R55). -/

namespace Sys2Proof

theorem commandWord_fields (w : Word) : commandWord (opcOf w) (immOf w) = w := by
  simp only [commandWord, opcOf, immOf]
  ext i hi
  simp only [BitVec.getElem_append, BitVec.getElem_extractLsb', Nat.zero_add]
  split
  · simp [BitVec.getLsbD_eq_getElem hi]
  · have : 24 + (i - 24) = i := by omega
    simp [this, BitVec.getLsbD_eq_getElem hi]

@[simp] theorem opcOf_commandWord (c : BitVec 8) (imm : BitVec 24) : opcOf (commandWord c imm) = c := by
  refine BitVec.eq_of_getElem_eq (fun i hi => ?_)
  have : ¬ 24 + i < 24 := by omega
  simp only [commandWord, opcOf, BitVec.getElem_extractLsb']
  rw [BitVec.getLsbD_append, if_neg this, Nat.add_sub_cancel_left, BitVec.getLsbD_eq_getElem hi]

@[simp] theorem immOf_commandWord (c : BitVec 8) (imm : BitVec 24) : immOf (commandWord c imm) = imm := by
  refine BitVec.eq_of_getElem_eq (fun i hi => ?_)
  simp only [commandWord, immOf, BitVec.getElem_extractLsb', Nat.zero_add]
  rw [BitVec.getLsbD_append, if_pos hi, BitVec.getLsbD_eq_getElem hi]

/-- A word is its two fields. -/
theorem word_ext {v w : Word} : v = w ↔ opcOf v = opcOf w ∧ immOf v = immOf w := by
  constructor
  · rintro rfl; exact ⟨rfl, rfl⟩
  · rintro ⟨h1, h2⟩
    rw [← commandWord_fields v, ← commandWord_fields w, h1, h2]

/-- Everything the decoder can answer with a command. -/
theorem decode_ok {w : Word} {i : Instr} (h : decode w = .ok i) :
    (opcOf w = 0x01#8 ∧ immOf w = 0#24 ∧ i = .configure) ∨
    (opcOf w = 0x02#8 ∧ immOf w = 0#24 ∧ i = .powerOn) ∨
    (opcOf w = 0x03#8 ∧ immOf w = 0#24 ∧ i = .powerOff) ∨
    (opcOf w = 0x04#8 ∧ i = .start (immOf w)) ∨
    (opcOf w = 0x05#8 ∧ immOf w = 0#24 ∧ i = .stop) := by
  unfold decode requireZeroImm at h
  split_ifs at h <;> simp_all

end Sys2Proof
end

