-- ==== Sys2Proof/Laws/State.lean ====
section
/-! SUPPORT. What every named update does to every field of State: one lemma per field per update. -/

namespace Sys2Proof.Machine

variable (s : State)

@[simp] theorem State.quiet_cfg : (s.quiet).cfg = s.cfg := rfl
@[simp] theorem State.quiet_dev : (s.quiet).dev = s.dev := rfl
@[simp] theorem State.quiet_armed : (s.quiet).armed = s.armed := rfl
@[simp] theorem State.quiet_freq : (s.quiet).freq = s.freq := rfl
@[simp] theorem State.quiet_result : (s.quiet).result = s.result := rfl
@[simp] theorem State.quiet_window : (s.quiet).window = s.window := rfl
@[simp] theorem State.quiet_undo : (s.quiet).undo = s.undo := rfl
@[simp] theorem State.quiet_mode : (s.quiet).mode = s.mode := rfl
@[simp] theorem State.quiet_backup : (s.quiet).backup = s.backup := rfl
@[simp] theorem State.quiet_meanNum : (s.quiet).meanNum = s.meanNum := rfl
@[simp] theorem State.quiet_trendNum : (s.quiet).trendNum = s.trendNum := rfl
@[simp] theorem State.quiet_stable : (s.quiet).stable = s.stable := rfl
@[simp] theorem State.quiet_signals : (s.quiet).signals = Signals.quiet := rfl
@[simp] theorem State.quiet_hostQueue : (s.quiet).hostQueue = s.hostQueue := rfl
@[simp] theorem State.quiet_schedule : (s.quiet).schedule = s.schedule := rfl
@[simp] theorem State.quiet_freeDraws : (s.quiet).freeDraws = s.freeDraws := rfl
@[simp] theorem State.quiet_len : (s.quiet).len = s.len := rfl
@[simp] theorem State.quiet_slot : (s.quiet).slot = s.slot := rfl
@[simp] theorem State.quiet_w : (s.quiet).w = s.w := rfl

@[simp] theorem State.complete_cfg (c : ResultCode) : (s.complete c).cfg = s.cfg := rfl
@[simp] theorem State.complete_dev (c : ResultCode) : (s.complete c).dev = s.dev := rfl
@[simp] theorem State.complete_armed (c : ResultCode) : (s.complete c).armed = s.armed := rfl
@[simp] theorem State.complete_freq (c : ResultCode) : (s.complete c).freq = s.freq := rfl
@[simp] theorem State.complete_result (c : ResultCode) : (s.complete c).result = c := rfl
@[simp] theorem State.complete_window (c : ResultCode) : (s.complete c).window = s.window := rfl
@[simp] theorem State.complete_undo (c : ResultCode) : (s.complete c).undo = s.undo := rfl
@[simp] theorem State.complete_mode (c : ResultCode) : (s.complete c).mode = s.mode := rfl
@[simp] theorem State.complete_backup (c : ResultCode) : (s.complete c).backup = s.backup := rfl
@[simp] theorem State.complete_meanNum (c : ResultCode) : (s.complete c).meanNum = s.meanNum := rfl
@[simp] theorem State.complete_trendNum (c : ResultCode) : (s.complete c).trendNum = s.trendNum := rfl
@[simp] theorem State.complete_stable (c : ResultCode) : (s.complete c).stable = s.stable := rfl
@[simp] theorem State.complete_signals (c : ResultCode) : (s.complete c).signals = { s.signals with reply := .okAccess } := rfl
@[simp] theorem State.complete_hostQueue (c : ResultCode) : (s.complete c).hostQueue = s.hostQueue := rfl
@[simp] theorem State.complete_schedule (c : ResultCode) : (s.complete c).schedule = s.schedule := rfl
@[simp] theorem State.complete_freeDraws (c : ResultCode) : (s.complete c).freeDraws = s.freeDraws := rfl
@[simp] theorem State.complete_len (c : ResultCode) : (s.complete c).len = s.len := rfl
@[simp] theorem State.complete_slot (c : ResultCode) : (s.complete c).slot = s.slot := rfl
@[simp] theorem State.complete_w (c : ResultCode) : (s.complete c).w = s.w := rfl

@[simp] theorem State.setDev_cfg (d : Dev) : (s.setDev d).cfg = s.cfg := rfl
@[simp] theorem State.setDev_dev (d : Dev) : (s.setDev d).dev = d := rfl
@[simp] theorem State.setDev_armed (d : Dev) : (s.setDev d).armed = s.armed := rfl
@[simp] theorem State.setDev_freq (d : Dev) : (s.setDev d).freq = s.freq := rfl
@[simp] theorem State.setDev_result (d : Dev) : (s.setDev d).result = s.result := rfl
@[simp] theorem State.setDev_window (d : Dev) : (s.setDev d).window = s.window := rfl
@[simp] theorem State.setDev_undo (d : Dev) : (s.setDev d).undo = s.undo := rfl
@[simp] theorem State.setDev_mode (d : Dev) : (s.setDev d).mode = s.mode := rfl
@[simp] theorem State.setDev_backup (d : Dev) : (s.setDev d).backup = s.backup := rfl
@[simp] theorem State.setDev_meanNum (d : Dev) : (s.setDev d).meanNum = s.meanNum := rfl
@[simp] theorem State.setDev_trendNum (d : Dev) : (s.setDev d).trendNum = s.trendNum := rfl
@[simp] theorem State.setDev_stable (d : Dev) : (s.setDev d).stable = s.stable := rfl
@[simp] theorem State.setDev_signals (d : Dev) : (s.setDev d).signals = s.signals := rfl
@[simp] theorem State.setDev_hostQueue (d : Dev) : (s.setDev d).hostQueue = s.hostQueue := rfl
@[simp] theorem State.setDev_schedule (d : Dev) : (s.setDev d).schedule = s.schedule := rfl
@[simp] theorem State.setDev_freeDraws (d : Dev) : (s.setDev d).freeDraws = s.freeDraws := rfl
@[simp] theorem State.setDev_len (d : Dev) : (s.setDev d).len = s.len := rfl
@[simp] theorem State.setDev_slot (d : Dev) : (s.setDev d).slot = s.slot := rfl
@[simp] theorem State.setDev_w (d : Dev) : (s.setDev d).w = s.w := rfl

@[simp] theorem State.setArmed_cfg (b : Bool) : (s.setArmed b).cfg = s.cfg := rfl
@[simp] theorem State.setArmed_dev (b : Bool) : (s.setArmed b).dev = s.dev := rfl
@[simp] theorem State.setArmed_armed (b : Bool) : (s.setArmed b).armed = b := rfl
@[simp] theorem State.setArmed_freq (b : Bool) : (s.setArmed b).freq = s.freq := rfl
@[simp] theorem State.setArmed_result (b : Bool) : (s.setArmed b).result = s.result := rfl
@[simp] theorem State.setArmed_window (b : Bool) : (s.setArmed b).window = s.window := rfl
@[simp] theorem State.setArmed_undo (b : Bool) : (s.setArmed b).undo = s.undo := rfl
@[simp] theorem State.setArmed_mode (b : Bool) : (s.setArmed b).mode = s.mode := rfl
@[simp] theorem State.setArmed_backup (b : Bool) : (s.setArmed b).backup = s.backup := rfl
@[simp] theorem State.setArmed_meanNum (b : Bool) : (s.setArmed b).meanNum = s.meanNum := rfl
@[simp] theorem State.setArmed_trendNum (b : Bool) : (s.setArmed b).trendNum = s.trendNum := rfl
@[simp] theorem State.setArmed_stable (b : Bool) : (s.setArmed b).stable = s.stable := rfl
@[simp] theorem State.setArmed_signals (b : Bool) : (s.setArmed b).signals = s.signals := rfl
@[simp] theorem State.setArmed_hostQueue (b : Bool) : (s.setArmed b).hostQueue = s.hostQueue := rfl
@[simp] theorem State.setArmed_schedule (b : Bool) : (s.setArmed b).schedule = s.schedule := rfl
@[simp] theorem State.setArmed_freeDraws (b : Bool) : (s.setArmed b).freeDraws = s.freeDraws := rfl
@[simp] theorem State.setArmed_len (b : Bool) : (s.setArmed b).len = s.len := rfl
@[simp] theorem State.setArmed_slot (b : Bool) : (s.setArmed b).slot = s.slot := rfl
@[simp] theorem State.setArmed_w (b : Bool) : (s.setArmed b).w = s.w := rfl

@[simp] theorem State.setFreq_cfg (f : MilliHz) : (s.setFreq f).cfg = s.cfg := rfl
@[simp] theorem State.setFreq_dev (f : MilliHz) : (s.setFreq f).dev = s.dev := rfl
@[simp] theorem State.setFreq_armed (f : MilliHz) : (s.setFreq f).armed = s.armed := rfl
@[simp] theorem State.setFreq_freq (f : MilliHz) : (s.setFreq f).freq = f := rfl
@[simp] theorem State.setFreq_result (f : MilliHz) : (s.setFreq f).result = s.result := rfl
@[simp] theorem State.setFreq_window (f : MilliHz) : (s.setFreq f).window = s.window := rfl
@[simp] theorem State.setFreq_undo (f : MilliHz) : (s.setFreq f).undo = s.undo := rfl
@[simp] theorem State.setFreq_mode (f : MilliHz) : (s.setFreq f).mode = s.mode := rfl
@[simp] theorem State.setFreq_backup (f : MilliHz) : (s.setFreq f).backup = s.backup := rfl
@[simp] theorem State.setFreq_meanNum (f : MilliHz) : (s.setFreq f).meanNum = s.meanNum := rfl
@[simp] theorem State.setFreq_trendNum (f : MilliHz) : (s.setFreq f).trendNum = s.trendNum := rfl
@[simp] theorem State.setFreq_stable (f : MilliHz) : (s.setFreq f).stable = s.stable := rfl
@[simp] theorem State.setFreq_signals (f : MilliHz) : (s.setFreq f).signals = s.signals := rfl
@[simp] theorem State.setFreq_hostQueue (f : MilliHz) : (s.setFreq f).hostQueue = s.hostQueue := rfl
@[simp] theorem State.setFreq_schedule (f : MilliHz) : (s.setFreq f).schedule = s.schedule := rfl
@[simp] theorem State.setFreq_freeDraws (f : MilliHz) : (s.setFreq f).freeDraws = s.freeDraws := rfl
@[simp] theorem State.setFreq_len (f : MilliHz) : (s.setFreq f).len = s.len := rfl
@[simp] theorem State.setFreq_slot (f : MilliHz) : (s.setFreq f).slot = s.slot := rfl
@[simp] theorem State.setFreq_w (f : MilliHz) : (s.setFreq f).w = s.w := rfl

@[simp] theorem State.setMode_cfg (m : Mode) : (s.setMode m).cfg = s.cfg := rfl
@[simp] theorem State.setMode_dev (m : Mode) : (s.setMode m).dev = s.dev := rfl
@[simp] theorem State.setMode_armed (m : Mode) : (s.setMode m).armed = s.armed := rfl
@[simp] theorem State.setMode_freq (m : Mode) : (s.setMode m).freq = s.freq := rfl
@[simp] theorem State.setMode_result (m : Mode) : (s.setMode m).result = s.result := rfl
@[simp] theorem State.setMode_window (m : Mode) : (s.setMode m).window = s.window := rfl
@[simp] theorem State.setMode_undo (m : Mode) : (s.setMode m).undo = s.undo := rfl
@[simp] theorem State.setMode_mode (m : Mode) : (s.setMode m).mode = m := rfl
@[simp] theorem State.setMode_backup (m : Mode) : (s.setMode m).backup = s.backup := rfl
@[simp] theorem State.setMode_meanNum (m : Mode) : (s.setMode m).meanNum = s.meanNum := rfl
@[simp] theorem State.setMode_trendNum (m : Mode) : (s.setMode m).trendNum = s.trendNum := rfl
@[simp] theorem State.setMode_stable (m : Mode) : (s.setMode m).stable = s.stable := rfl
@[simp] theorem State.setMode_signals (m : Mode) : (s.setMode m).signals = s.signals := rfl
@[simp] theorem State.setMode_hostQueue (m : Mode) : (s.setMode m).hostQueue = s.hostQueue := rfl
@[simp] theorem State.setMode_schedule (m : Mode) : (s.setMode m).schedule = s.schedule := rfl
@[simp] theorem State.setMode_freeDraws (m : Mode) : (s.setMode m).freeDraws = s.freeDraws := rfl
@[simp] theorem State.setMode_len (m : Mode) : (s.setMode m).len = s.len := rfl
@[simp] theorem State.setMode_slot (m : Mode) : (s.setMode m).slot = s.slot := rfl
@[simp] theorem State.setMode_w (m : Mode) : (s.setMode m).w = s.w := rfl

@[simp] theorem State.setBackup_cfg (v : Sample) : (s.setBackup v).cfg = s.cfg := rfl
@[simp] theorem State.setBackup_dev (v : Sample) : (s.setBackup v).dev = s.dev := rfl
@[simp] theorem State.setBackup_armed (v : Sample) : (s.setBackup v).armed = s.armed := rfl
@[simp] theorem State.setBackup_freq (v : Sample) : (s.setBackup v).freq = s.freq := rfl
@[simp] theorem State.setBackup_result (v : Sample) : (s.setBackup v).result = s.result := rfl
@[simp] theorem State.setBackup_window (v : Sample) : (s.setBackup v).window = s.window := rfl
@[simp] theorem State.setBackup_undo (v : Sample) : (s.setBackup v).undo = s.undo := rfl
@[simp] theorem State.setBackup_mode (v : Sample) : (s.setBackup v).mode = s.mode := rfl
@[simp] theorem State.setBackup_backup (v : Sample) : (s.setBackup v).backup = v := rfl
@[simp] theorem State.setBackup_meanNum (v : Sample) : (s.setBackup v).meanNum = s.meanNum := rfl
@[simp] theorem State.setBackup_trendNum (v : Sample) : (s.setBackup v).trendNum = s.trendNum := rfl
@[simp] theorem State.setBackup_stable (v : Sample) : (s.setBackup v).stable = s.stable := rfl
@[simp] theorem State.setBackup_signals (v : Sample) : (s.setBackup v).signals = s.signals := rfl
@[simp] theorem State.setBackup_hostQueue (v : Sample) : (s.setBackup v).hostQueue = s.hostQueue := rfl
@[simp] theorem State.setBackup_schedule (v : Sample) : (s.setBackup v).schedule = s.schedule := rfl
@[simp] theorem State.setBackup_freeDraws (v : Sample) : (s.setBackup v).freeDraws = s.freeDraws := rfl
@[simp] theorem State.setBackup_len (v : Sample) : (s.setBackup v).len = s.len := rfl
@[simp] theorem State.setBackup_slot (v : Sample) : (s.setBackup v).slot = s.slot := rfl
@[simp] theorem State.setBackup_w (v : Sample) : (s.setBackup v).w = s.w := rfl

@[simp] theorem State.setWindow_cfg (w : List Sample) (u : Undo) : (s.setWindow w u).cfg = s.cfg := rfl
@[simp] theorem State.setWindow_dev (w : List Sample) (u : Undo) : (s.setWindow w u).dev = s.dev := rfl
@[simp] theorem State.setWindow_armed (w : List Sample) (u : Undo) : (s.setWindow w u).armed = s.armed := rfl
@[simp] theorem State.setWindow_freq (w : List Sample) (u : Undo) : (s.setWindow w u).freq = s.freq := rfl
@[simp] theorem State.setWindow_result (w : List Sample) (u : Undo) : (s.setWindow w u).result = s.result := rfl
@[simp] theorem State.setWindow_window (w : List Sample) (u : Undo) : (s.setWindow w u).window = w := rfl
@[simp] theorem State.setWindow_undo (w : List Sample) (u : Undo) : (s.setWindow w u).undo = u := rfl
@[simp] theorem State.setWindow_mode (w : List Sample) (u : Undo) : (s.setWindow w u).mode = s.mode := rfl
@[simp] theorem State.setWindow_backup (w : List Sample) (u : Undo) : (s.setWindow w u).backup = s.backup := rfl
@[simp] theorem State.setWindow_meanNum (w : List Sample) (u : Undo) : (s.setWindow w u).meanNum = s.meanNum := rfl
@[simp] theorem State.setWindow_trendNum (w : List Sample) (u : Undo) : (s.setWindow w u).trendNum = s.trendNum := rfl
@[simp] theorem State.setWindow_stable (w : List Sample) (u : Undo) : (s.setWindow w u).stable = s.stable := rfl
@[simp] theorem State.setWindow_signals (w : List Sample) (u : Undo) : (s.setWindow w u).signals = s.signals := rfl
@[simp] theorem State.setWindow_hostQueue (w : List Sample) (u : Undo) : (s.setWindow w u).hostQueue = s.hostQueue := rfl
@[simp] theorem State.setWindow_schedule (w : List Sample) (u : Undo) : (s.setWindow w u).schedule = s.schedule := rfl
@[simp] theorem State.setWindow_freeDraws (w : List Sample) (u : Undo) : (s.setWindow w u).freeDraws = s.freeDraws := rfl
@[simp] theorem State.setWindow_len (w : List Sample) (u : Undo) : (s.setWindow w u).len = w.length := rfl

@[simp] theorem State.setOutputs_cfg (m t : Word) (b : Bool) : (s.setOutputs m t b).cfg = s.cfg := rfl
@[simp] theorem State.setOutputs_dev (m t : Word) (b : Bool) : (s.setOutputs m t b).dev = s.dev := rfl
@[simp] theorem State.setOutputs_armed (m t : Word) (b : Bool) : (s.setOutputs m t b).armed = s.armed := rfl
@[simp] theorem State.setOutputs_freq (m t : Word) (b : Bool) : (s.setOutputs m t b).freq = s.freq := rfl
@[simp] theorem State.setOutputs_result (m t : Word) (b : Bool) : (s.setOutputs m t b).result = s.result := rfl
@[simp] theorem State.setOutputs_window (m t : Word) (b : Bool) : (s.setOutputs m t b).window = s.window := rfl
@[simp] theorem State.setOutputs_undo (m t : Word) (b : Bool) : (s.setOutputs m t b).undo = s.undo := rfl
@[simp] theorem State.setOutputs_mode (m t : Word) (b : Bool) : (s.setOutputs m t b).mode = s.mode := rfl
@[simp] theorem State.setOutputs_backup (m t : Word) (b : Bool) : (s.setOutputs m t b).backup = s.backup := rfl
@[simp] theorem State.setOutputs_meanNum (m t : Word) (b : Bool) : (s.setOutputs m t b).meanNum = m := rfl
@[simp] theorem State.setOutputs_trendNum (m t : Word) (b : Bool) : (s.setOutputs m t b).trendNum = t := rfl
@[simp] theorem State.setOutputs_stable (m t : Word) (b : Bool) : (s.setOutputs m t b).stable = b := rfl
@[simp] theorem State.setOutputs_signals (m t : Word) (b : Bool) : (s.setOutputs m t b).signals = s.signals := rfl
@[simp] theorem State.setOutputs_hostQueue (m t : Word) (b : Bool) : (s.setOutputs m t b).hostQueue = s.hostQueue := rfl
@[simp] theorem State.setOutputs_schedule (m t : Word) (b : Bool) : (s.setOutputs m t b).schedule = s.schedule := rfl
@[simp] theorem State.setOutputs_freeDraws (m t : Word) (b : Bool) : (s.setOutputs m t b).freeDraws = s.freeDraws := rfl
@[simp] theorem State.setOutputs_len (m t : Word) (b : Bool) : (s.setOutputs m t b).len = s.len := rfl
@[simp] theorem State.setOutputs_slot (m t : Word) (b : Bool) : (s.setOutputs m t b).slot = s.slot := rfl
@[simp] theorem State.setOutputs_w (m t : Word) (b : Bool) : (s.setOutputs m t b).w = s.w := rfl

@[simp] theorem State.countDraw_cfg : (s.countDraw).cfg = s.cfg := rfl
@[simp] theorem State.countDraw_dev : (s.countDraw).dev = s.dev := rfl
@[simp] theorem State.countDraw_armed : (s.countDraw).armed = s.armed := rfl
@[simp] theorem State.countDraw_freq : (s.countDraw).freq = s.freq := rfl
@[simp] theorem State.countDraw_result : (s.countDraw).result = s.result := rfl
@[simp] theorem State.countDraw_window : (s.countDraw).window = s.window := rfl
@[simp] theorem State.countDraw_undo : (s.countDraw).undo = s.undo := rfl
@[simp] theorem State.countDraw_mode : (s.countDraw).mode = s.mode := rfl
@[simp] theorem State.countDraw_backup : (s.countDraw).backup = s.backup := rfl
@[simp] theorem State.countDraw_meanNum : (s.countDraw).meanNum = s.meanNum := rfl
@[simp] theorem State.countDraw_trendNum : (s.countDraw).trendNum = s.trendNum := rfl
@[simp] theorem State.countDraw_stable : (s.countDraw).stable = s.stable := rfl
@[simp] theorem State.countDraw_signals : (s.countDraw).signals = s.signals := rfl
@[simp] theorem State.countDraw_hostQueue : (s.countDraw).hostQueue = s.hostQueue := rfl
@[simp] theorem State.countDraw_schedule : (s.countDraw).schedule = s.schedule := rfl
@[simp] theorem State.countDraw_freeDraws : (s.countDraw).freeDraws = if s.len < s.cfg.n then s.freeDraws + 1 else s.freeDraws := rfl
@[simp] theorem State.countDraw_len : (s.countDraw).len = s.len := rfl

@[simp] theorem State.pulseCfg_cfg : (s.pulseCfg).cfg = s.cfg := rfl
@[simp] theorem State.pulseCfg_dev : (s.pulseCfg).dev = s.dev := rfl
@[simp] theorem State.pulseCfg_armed : (s.pulseCfg).armed = s.armed := rfl
@[simp] theorem State.pulseCfg_freq : (s.pulseCfg).freq = s.freq := rfl
@[simp] theorem State.pulseCfg_result : (s.pulseCfg).result = s.result := rfl
@[simp] theorem State.pulseCfg_window : (s.pulseCfg).window = s.window := rfl
@[simp] theorem State.pulseCfg_undo : (s.pulseCfg).undo = s.undo := rfl
@[simp] theorem State.pulseCfg_mode : (s.pulseCfg).mode = s.mode := rfl
@[simp] theorem State.pulseCfg_backup : (s.pulseCfg).backup = s.backup := rfl
@[simp] theorem State.pulseCfg_meanNum : (s.pulseCfg).meanNum = s.meanNum := rfl
@[simp] theorem State.pulseCfg_trendNum : (s.pulseCfg).trendNum = s.trendNum := rfl
@[simp] theorem State.pulseCfg_stable : (s.pulseCfg).stable = s.stable := rfl
@[simp] theorem State.pulseCfg_signals : (s.pulseCfg).signals = { s.signals with srcCfg := true } := rfl
@[simp] theorem State.pulseCfg_hostQueue : (s.pulseCfg).hostQueue = s.hostQueue := rfl
@[simp] theorem State.pulseCfg_schedule : (s.pulseCfg).schedule = s.schedule := rfl
@[simp] theorem State.pulseCfg_freeDraws : (s.pulseCfg).freeDraws = s.freeDraws := rfl
@[simp] theorem State.pulseCfg_len : (s.pulseCfg).len = s.len := rfl
@[simp] theorem State.pulseCfg_slot : (s.pulseCfg).slot = s.slot := rfl
@[simp] theorem State.pulseCfg_w : (s.pulseCfg).w = s.w := rfl

@[simp] theorem State.pulseRd_cfg : (s.pulseRd).cfg = s.cfg := rfl
@[simp] theorem State.pulseRd_dev : (s.pulseRd).dev = s.dev := rfl
@[simp] theorem State.pulseRd_armed : (s.pulseRd).armed = s.armed := rfl
@[simp] theorem State.pulseRd_freq : (s.pulseRd).freq = s.freq := rfl
@[simp] theorem State.pulseRd_result : (s.pulseRd).result = s.result := rfl
@[simp] theorem State.pulseRd_window : (s.pulseRd).window = s.window := rfl
@[simp] theorem State.pulseRd_undo : (s.pulseRd).undo = s.undo := rfl
@[simp] theorem State.pulseRd_mode : (s.pulseRd).mode = s.mode := rfl
@[simp] theorem State.pulseRd_backup : (s.pulseRd).backup = s.backup := rfl
@[simp] theorem State.pulseRd_meanNum : (s.pulseRd).meanNum = s.meanNum := rfl
@[simp] theorem State.pulseRd_trendNum : (s.pulseRd).trendNum = s.trendNum := rfl
@[simp] theorem State.pulseRd_stable : (s.pulseRd).stable = s.stable := rfl
@[simp] theorem State.pulseRd_signals : (s.pulseRd).signals = { s.signals with srcRd := true } := rfl
@[simp] theorem State.pulseRd_hostQueue : (s.pulseRd).hostQueue = s.hostQueue := rfl
@[simp] theorem State.pulseRd_schedule : (s.pulseRd).schedule = s.schedule := rfl
@[simp] theorem State.pulseRd_freeDraws : (s.pulseRd).freeDraws = s.freeDraws := rfl
@[simp] theorem State.pulseRd_len : (s.pulseRd).len = s.len := rfl
@[simp] theorem State.pulseRd_slot : (s.pulseRd).slot = s.slot := rfl
@[simp] theorem State.pulseRd_w : (s.pulseRd).w = s.w := rfl

@[simp] theorem State.deliver_cfg (r : RegressionResult) : (s.deliver r).cfg = s.cfg := rfl
@[simp] theorem State.deliver_dev (r : RegressionResult) : (s.deliver r).dev = s.dev := rfl
@[simp] theorem State.deliver_armed (r : RegressionResult) : (s.deliver r).armed = s.armed := rfl
@[simp] theorem State.deliver_freq (r : RegressionResult) : (s.deliver r).freq = s.freq := rfl
@[simp] theorem State.deliver_result (r : RegressionResult) : (s.deliver r).result = s.result := rfl
@[simp] theorem State.deliver_window (r : RegressionResult) : (s.deliver r).window = s.window := rfl
@[simp] theorem State.deliver_undo (r : RegressionResult) : (s.deliver r).undo = s.undo := rfl
@[simp] theorem State.deliver_mode (r : RegressionResult) : (s.deliver r).mode = s.mode := rfl
@[simp] theorem State.deliver_backup (r : RegressionResult) : (s.deliver r).backup = s.backup := rfl
@[simp] theorem State.deliver_meanNum (r : RegressionResult) : (s.deliver r).meanNum = s.meanNum := rfl
@[simp] theorem State.deliver_trendNum (r : RegressionResult) : (s.deliver r).trendNum = s.trendNum := rfl
@[simp] theorem State.deliver_stable (r : RegressionResult) : (s.deliver r).stable = s.stable := rfl
@[simp] theorem State.deliver_signals (r : RegressionResult) : (s.deliver r).signals = { s.signals with regress := some r } := rfl
@[simp] theorem State.deliver_hostQueue (r : RegressionResult) : (s.deliver r).hostQueue = s.hostQueue := rfl
@[simp] theorem State.deliver_schedule (r : RegressionResult) : (s.deliver r).schedule = s.schedule := rfl
@[simp] theorem State.deliver_freeDraws (r : RegressionResult) : (s.deliver r).freeDraws = s.freeDraws := rfl
@[simp] theorem State.deliver_len (r : RegressionResult) : (s.deliver r).len = s.len := rfl
@[simp] theorem State.deliver_slot (r : RegressionResult) : (s.deliver r).slot = s.slot := rfl
@[simp] theorem State.deliver_w (r : RegressionResult) : (s.deliver r).w = s.w := rfl

@[simp] theorem State.answer_cfg (v : Word) : (s.answer v).cfg = s.cfg := rfl
@[simp] theorem State.answer_dev (v : Word) : (s.answer v).dev = s.dev := rfl
@[simp] theorem State.answer_armed (v : Word) : (s.answer v).armed = s.armed := rfl
@[simp] theorem State.answer_freq (v : Word) : (s.answer v).freq = s.freq := rfl
@[simp] theorem State.answer_result (v : Word) : (s.answer v).result = s.result := rfl
@[simp] theorem State.answer_window (v : Word) : (s.answer v).window = s.window := rfl
@[simp] theorem State.answer_undo (v : Word) : (s.answer v).undo = s.undo := rfl
@[simp] theorem State.answer_mode (v : Word) : (s.answer v).mode = s.mode := rfl
@[simp] theorem State.answer_backup (v : Word) : (s.answer v).backup = s.backup := rfl
@[simp] theorem State.answer_meanNum (v : Word) : (s.answer v).meanNum = s.meanNum := rfl
@[simp] theorem State.answer_trendNum (v : Word) : (s.answer v).trendNum = s.trendNum := rfl
@[simp] theorem State.answer_stable (v : Word) : (s.answer v).stable = s.stable := rfl
@[simp] theorem State.answer_signals (v : Word) : (s.answer v).signals = { s.signals with reply := .data v } := rfl
@[simp] theorem State.answer_hostQueue (v : Word) : (s.answer v).hostQueue = s.hostQueue := rfl
@[simp] theorem State.answer_schedule (v : Word) : (s.answer v).schedule = s.schedule := rfl
@[simp] theorem State.answer_freeDraws (v : Word) : (s.answer v).freeDraws = s.freeDraws := rfl
@[simp] theorem State.answer_len (v : Word) : (s.answer v).len = s.len := rfl
@[simp] theorem State.answer_slot (v : Word) : (s.answer v).slot = s.slot := rfl
@[simp] theorem State.answer_w (v : Word) : (s.answer v).w = s.w := rfl

@[simp] theorem State.setSchedule_cfg (l : List Turn) : (s.setSchedule l).cfg = s.cfg := rfl
@[simp] theorem State.setSchedule_dev (l : List Turn) : (s.setSchedule l).dev = s.dev := rfl
@[simp] theorem State.setSchedule_armed (l : List Turn) : (s.setSchedule l).armed = s.armed := rfl
@[simp] theorem State.setSchedule_freq (l : List Turn) : (s.setSchedule l).freq = s.freq := rfl
@[simp] theorem State.setSchedule_result (l : List Turn) : (s.setSchedule l).result = s.result := rfl
@[simp] theorem State.setSchedule_window (l : List Turn) : (s.setSchedule l).window = s.window := rfl
@[simp] theorem State.setSchedule_undo (l : List Turn) : (s.setSchedule l).undo = s.undo := rfl
@[simp] theorem State.setSchedule_mode (l : List Turn) : (s.setSchedule l).mode = s.mode := rfl
@[simp] theorem State.setSchedule_backup (l : List Turn) : (s.setSchedule l).backup = s.backup := rfl
@[simp] theorem State.setSchedule_meanNum (l : List Turn) : (s.setSchedule l).meanNum = s.meanNum := rfl
@[simp] theorem State.setSchedule_trendNum (l : List Turn) : (s.setSchedule l).trendNum = s.trendNum := rfl
@[simp] theorem State.setSchedule_stable (l : List Turn) : (s.setSchedule l).stable = s.stable := rfl
@[simp] theorem State.setSchedule_signals (l : List Turn) : (s.setSchedule l).signals = s.signals := rfl
@[simp] theorem State.setSchedule_hostQueue (l : List Turn) : (s.setSchedule l).hostQueue = s.hostQueue := rfl
@[simp] theorem State.setSchedule_schedule (l : List Turn) : (s.setSchedule l).schedule = l := rfl
@[simp] theorem State.setSchedule_freeDraws (l : List Turn) : (s.setSchedule l).freeDraws = s.freeDraws := rfl
@[simp] theorem State.setSchedule_len (l : List Turn) : (s.setSchedule l).len = s.len := rfl
@[simp] theorem State.setSchedule_slot (l : List Turn) : (s.setSchedule l).slot = s.slot := rfl
@[simp] theorem State.setSchedule_w (l : List Turn) : (s.setSchedule l).w = s.w := rfl

@[simp] theorem State.setHostQueue_cfg (l : List HostAccess) : (s.setHostQueue l).cfg = s.cfg := rfl
@[simp] theorem State.setHostQueue_dev (l : List HostAccess) : (s.setHostQueue l).dev = s.dev := rfl
@[simp] theorem State.setHostQueue_armed (l : List HostAccess) : (s.setHostQueue l).armed = s.armed := rfl
@[simp] theorem State.setHostQueue_freq (l : List HostAccess) : (s.setHostQueue l).freq = s.freq := rfl
@[simp] theorem State.setHostQueue_result (l : List HostAccess) : (s.setHostQueue l).result = s.result := rfl
@[simp] theorem State.setHostQueue_window (l : List HostAccess) : (s.setHostQueue l).window = s.window := rfl
@[simp] theorem State.setHostQueue_undo (l : List HostAccess) : (s.setHostQueue l).undo = s.undo := rfl
@[simp] theorem State.setHostQueue_mode (l : List HostAccess) : (s.setHostQueue l).mode = s.mode := rfl
@[simp] theorem State.setHostQueue_backup (l : List HostAccess) : (s.setHostQueue l).backup = s.backup := rfl
@[simp] theorem State.setHostQueue_meanNum (l : List HostAccess) : (s.setHostQueue l).meanNum = s.meanNum := rfl
@[simp] theorem State.setHostQueue_trendNum (l : List HostAccess) : (s.setHostQueue l).trendNum = s.trendNum := rfl
@[simp] theorem State.setHostQueue_stable (l : List HostAccess) : (s.setHostQueue l).stable = s.stable := rfl
@[simp] theorem State.setHostQueue_signals (l : List HostAccess) : (s.setHostQueue l).signals = s.signals := rfl
@[simp] theorem State.setHostQueue_hostQueue (l : List HostAccess) : (s.setHostQueue l).hostQueue = l := rfl
@[simp] theorem State.setHostQueue_schedule (l : List HostAccess) : (s.setHostQueue l).schedule = s.schedule := rfl
@[simp] theorem State.setHostQueue_freeDraws (l : List HostAccess) : (s.setHostQueue l).freeDraws = s.freeDraws := rfl
@[simp] theorem State.setHostQueue_len (l : List HostAccess) : (s.setHostQueue l).len = s.len := rfl
@[simp] theorem State.setHostQueue_slot (l : List HostAccess) : (s.setHostQueue l).slot = s.slot := rfl
@[simp] theorem State.setHostQueue_w (l : List HostAccess) : (s.setHostQueue l).w = s.w := rfl

@[simp] theorem State.filterReset_cfg : (s.filterReset).cfg = s.cfg := rfl
@[simp] theorem State.filterReset_dev : (s.filterReset).dev = s.dev := rfl
@[simp] theorem State.filterReset_armed : (s.filterReset).armed = s.armed := rfl
@[simp] theorem State.filterReset_freq : (s.filterReset).freq = s.freq := rfl
@[simp] theorem State.filterReset_result : (s.filterReset).result = s.result := rfl
@[simp] theorem State.filterReset_window : (s.filterReset).window = [] := rfl
@[simp] theorem State.filterReset_undo : (s.filterReset).undo = { kind := .none, evicted := 0#24 } := rfl
@[simp] theorem State.filterReset_mode : (s.filterReset).mode = .filling := rfl
@[simp] theorem State.filterReset_backup : (s.filterReset).backup = 0#24 := rfl
@[simp] theorem State.filterReset_meanNum : (s.filterReset).meanNum = 0#32 := rfl
@[simp] theorem State.filterReset_trendNum : (s.filterReset).trendNum = 0#32 := rfl
@[simp] theorem State.filterReset_stable : (s.filterReset).stable = false := rfl
@[simp] theorem State.filterReset_signals : (s.filterReset).signals = s.signals := rfl
@[simp] theorem State.filterReset_hostQueue : (s.filterReset).hostQueue = s.hostQueue := rfl
@[simp] theorem State.filterReset_schedule : (s.filterReset).schedule = s.schedule := rfl
@[simp] theorem State.filterReset_freeDraws : (s.filterReset).freeDraws = s.freeDraws := rfl
@[simp] theorem State.filterReset_len : (s.filterReset).len = 0 := rfl

@[simp] theorem State.blockReset_cfg : (s.blockReset).cfg = s.cfg := rfl
@[simp] theorem State.blockReset_dev : (s.blockReset).dev = .uninitialized := rfl
@[simp] theorem State.blockReset_armed : (s.blockReset).armed = false := rfl
@[simp] theorem State.blockReset_freq : (s.blockReset).freq = 0#24 := rfl
@[simp] theorem State.blockReset_result : (s.blockReset).result = .ok := rfl
@[simp] theorem State.blockReset_window : (s.blockReset).window = [] := rfl
@[simp] theorem State.blockReset_undo : (s.blockReset).undo = { kind := .none, evicted := 0#24 } := rfl
@[simp] theorem State.blockReset_mode : (s.blockReset).mode = .filling := rfl
@[simp] theorem State.blockReset_backup : (s.blockReset).backup = 0#24 := rfl
@[simp] theorem State.blockReset_meanNum : (s.blockReset).meanNum = 0#32 := rfl
@[simp] theorem State.blockReset_trendNum : (s.blockReset).trendNum = 0#32 := rfl
@[simp] theorem State.blockReset_stable : (s.blockReset).stable = false := rfl
@[simp] theorem State.blockReset_signals : (s.blockReset).signals = Signals.quiet := rfl
@[simp] theorem State.blockReset_hostQueue : (s.blockReset).hostQueue = s.hostQueue := rfl
@[simp] theorem State.blockReset_schedule : (s.blockReset).schedule = s.schedule := rfl
@[simp] theorem State.blockReset_freeDraws : (s.blockReset).freeDraws = s.freeDraws := rfl
@[simp] theorem State.blockReset_len : (s.blockReset).len = 0 := rfl

@[simp] theorem State.placeCommand_cfg (w : Word) : (s.placeCommand w).cfg = s.cfg := rfl
@[simp] theorem State.placeCommand_dev (w : Word) : (s.placeCommand w).dev = s.dev := rfl
@[simp] theorem State.placeCommand_armed (w : Word) : (s.placeCommand w).armed = s.armed := rfl
@[simp] theorem State.placeCommand_freq (w : Word) : (s.placeCommand w).freq = s.freq := rfl
@[simp] theorem State.placeCommand_result (w : Word) : (s.placeCommand w).result = s.result := rfl
@[simp] theorem State.placeCommand_window (w : Word) : (s.placeCommand w).window = s.window := rfl
@[simp] theorem State.placeCommand_undo (w : Word) : (s.placeCommand w).undo = s.undo := rfl
@[simp] theorem State.placeCommand_mode (w : Word) : (s.placeCommand w).mode = s.mode := rfl
@[simp] theorem State.placeCommand_backup (w : Word) : (s.placeCommand w).backup = s.backup := rfl
@[simp] theorem State.placeCommand_meanNum (w : Word) : (s.placeCommand w).meanNum = s.meanNum := rfl
@[simp] theorem State.placeCommand_trendNum (w : Word) : (s.placeCommand w).trendNum = s.trendNum := rfl
@[simp] theorem State.placeCommand_stable (w : Word) : (s.placeCommand w).stable = s.stable := rfl
@[simp] theorem State.placeCommand_signals (w : Word) : (s.placeCommand w).signals = s.signals := rfl
@[simp] theorem State.placeCommand_hostQueue (w : Word) : (s.placeCommand w).hostQueue = commandWrite w :: s.hostQueue := rfl
@[simp] theorem State.placeCommand_schedule (w : Word) : (s.placeCommand w).schedule = .host :: s.schedule := rfl
@[simp] theorem State.placeCommand_freeDraws (w : Word) : (s.placeCommand w).freeDraws = s.freeDraws := rfl
@[simp] theorem State.placeCommand_len (w : Word) : (s.placeCommand w).len = s.len := rfl
@[simp] theorem State.placeCommand_slot (w : Word) : (s.placeCommand w).slot = s.slot := rfl
@[simp] theorem State.placeCommand_w (w : Word) : (s.placeCommand w).w = s.w := rfl

end Sys2Proof.Machine
end

