-- ==== Sys2Proof/Laws/Sums.lean ====
section
/-! SUPPORT. Laws of the exact sums and absolute values of 00_scope.md R11, and of the offsets they run over (R6, R7). -/

namespace Sys2Proof.Machine

@[simp] theorem sumTo_zero {α : Type} [Zero α] [Add α] (f : Nat → α) : sumTo 0 f = 0 := rfl

theorem sumTo_succ {α : Type} [Zero α] [Add α] (n : Nat) (f : Nat → α) :
    sumTo (n + 1) f = sumTo n f + f n := rfl

theorem sumTo_congr {α : Type} [Zero α] [Add α] {n : Nat} {f g : Nat → α}
    (h : ∀ i, i < n → f i = g i) : sumTo n f = sumTo n g := by
  induction n with
  | zero => rfl
  | succ k ih =>
    rw [sumTo_succ, sumTo_succ, ih (fun i hi => h i (Nat.lt_succ_of_lt hi)), h k (Nat.lt_succ_self k)]

/-- A block's sum is the library's sum over `0 .. n-1`. -/
theorem sumTo_eq_sum {α : Type} [AddCommMonoid α] (n : Nat) (f : Nat → α) :
    sumTo n f = ∑ i ∈ Finset.range n, f i := by
  induction n with
  | zero => rfl
  | succ k ih => rw [sumTo_succ, ih, Finset.sum_range_succ]

theorem cast_sumTo (n : Nat) (f : Nat → Int) :
    ((sumTo n f : Int) : ℚ) = sumTo n (fun i => (f i : ℚ)) := by
  rw [sumTo_eq_sum, sumTo_eq_sum, Int.cast_sum]

theorem absQ_eq_abs (q : ℚ) : absQ q = |q| := by
  unfold absQ
  split
  · exact (abs_of_nonneg ‹_›).symm
  · exact (abs_of_neg (not_le.mp ‹_›)).symm

theorem absZ_eq_abs (z : Int) : absZ z = |z| := by
  unfold absZ
  split
  · exact (abs_of_nonneg ‹_›).symm
  · exact (abs_of_neg (not_le.mp ‹_›)).symm

/-- A sum's absolute value is at most `n` times a bound on its terms. -/
theorem abs_sumTo_le (n : Nat) (f : Nat → Int) (b : Int) (h : ∀ i, i < n → |f i| ≤ b) :
    |sumTo n f| ≤ n * b := by
  induction n with
  | zero => simp
  | succ k ih =>
    rw [sumTo_succ]
    have h1 := ih (fun i hi => h i (Nat.lt_succ_of_lt hi))
    have h2 := h k (Nat.lt_succ_self k)
    have h3 := abs_add_le (sumTo k f) (f k)
    push_cast
    linarith

/-- The offsets of an odd window sum to 0, their squares to `SXX`, and `SXX` is positive (R7). Stated
over the length alone, for each of the 15 legal lengths. -/
theorem offset_sums_of_length : ∀ n : Nat, n < 32 → n % 2 = 1 → 3 ≤ n →
    sumTo n (fun i => (i : Int) - ((n - 1) / 2 : Nat)) = 0 ∧
    sumTo n (fun i => ((i : Int) - ((n - 1) / 2 : Nat)) * ((i : Int) - ((n - 1) / 2 : Nat))) =
      ((n - 1) * n * (n + 1) / 12 : Nat) ∧
    0 < (n - 1) * n * (n + 1) / 12 := by
  decide

theorem sum_offsetX {p : Params} (h : p.Legal) : sumTo p.n (offsetX p) = 0 :=
  (offset_sums_of_length p.n (by omega) h.1 h.2.1).1

theorem sum_offsetX_sq {p : Params} (h : p.Legal) :
    sumTo p.n (fun i => offsetX p i * offsetX p i) = sxx p :=
  (offset_sums_of_length p.n (by omega) h.1 h.2.1).2.1

theorem sxx_pos {p : Params} (h : p.Legal) : 0 < sxx p :=
  (offset_sums_of_length p.n (by omega) h.1 h.2.1).2.2

theorem denE_pos {p : Params} (h : p.Legal) : 0 < denE p := by
  have h1 := sxx_pos h
  have h2 : 0 < p.n := by have := h.2.1; omega
  unfold denE
  positivity

/-- `sext_24` is the two's-complement reading of the code (R9, R53). -/
theorem sext24_eq_toInt (v : Sample) : sext24 v = v.toInt := by
  unfold sext24
  rw [BitVec.toInt_eq_msb_cond]
  split <;> simp

end Sys2Proof.Machine
end

