-- ==== Sys2Proof/Laws/Regression.lean ====
section
/-! SUPPORT. What REGRESS answers (41_regression.md R64), its closed form on a full window of an odd length (R65 to R67), and the threshold comparisons as integer comparisons (R68). -/

namespace Sys2Proof.Machine

theorem fit_congr {l : Nat} {x y z : Nat → Int} (h : ∀ i, i < l → y i = z i) :
    fit l x y = fit l x z := by
  have h1 : sumTo l y = sumTo l z := sumTo_congr h
  have h2 : sumTo l (fun i => x i * y i) = sumTo l (fun i => x i * z i) :=
    sumTo_congr (fun i hi => by rw [h i hi])
  unfold fit
  rw [h1, h2]
  simp only [RegressionResult.mk.injEq, true_and]
  congr 1
  exact sumTo_congr (fun i hi => by rw [h i hi])

theorem eNum_congr {p : Params} {y z : Nat → Int} (h : ∀ i, i < p.n → y i = z i) :
    eNum p y = eNum p z := by
  have h1 : sumTo p.n y = sumTo p.n z := sumTo_congr h
  have h2 : sumTo p.n (fun i => offsetX p i * y i) = sumTo p.n (fun i => offsetX p i * z i) :=
    sumTo_congr (fun i hi => by rw [h i hi])
  refine sumTo_congr (fun i hi => ?_)
  simp only [residualNum, h1, h2, h i hi]

/-- The slope of a full window (R65). -/
theorem fit_slope {p : Params} (h : p.Legal) (y : Nat → Int) :
    (fit p.n (offsetX p) y).a = (sumTo p.n (fun i => offsetX p i * y i) : Int) / (sxx p : ℚ) := by
  have hn : (p.n : ℚ) ≠ 0 := by have := h.2.1; positivity
  have hs : (sxx p : ℚ) ≠ 0 := by have := sxx_pos h; positivity
  simp only [fit, sum_offsetX h, sum_offsetX_sq h]
  push_cast
  field_simp
  ring

/-- The intercept of a full window is its mean (R66). -/
theorem fit_intercept {p : Params} (h : p.Legal) (y : Nat → Int) :
    (fit p.n (offsetX p) y).b = (sumTo p.n y : Int) / (p.n : ℚ) := by
  have hn : (p.n : ℚ) ≠ 0 := by have := h.2.1; positivity
  have hs : (sxx p : ℚ) ≠ 0 := by have := sxx_pos h; positivity
  simp only [fit, sum_offsetX h, sum_offsetX_sq h]
  push_cast
  field_simp
  ring

/-- The residual of a fit, from its own slope and intercept (R64). -/
theorem fit_residual (l : Nat) (x y : Nat → Int) :
    (fit l x y).e = 1 / l * sumTo l (fun i => absQ ((y i : ℚ) - ((fit l x y).a * (x i : ℚ) + (fit l x y).b))) :=
  rfl

/-- One slot's deviation from the line is `R_i / (N * SXX)` (R67). -/
theorem deviation_eq {p : Params} (h : p.Legal) (y : Nat → Int) (i : Nat) :
    (y i : ℚ) - ((fit p.n (offsetX p) y).a * (offsetX p i : ℚ) + (fit p.n (offsetX p) y).b) =
      (residualNum p y i : ℚ) / (p.n * sxx p) := by
  have hn : (p.n : ℚ) ≠ 0 := by have := h.2.1; positivity
  have hs : (sxx p : ℚ) ≠ 0 := by have := sxx_pos h; positivity
  rw [fit_slope h, fit_intercept h, residualNum]
  push_cast
  field_simp
  ring

/-- The mean absolute residual of a full window is `E_NUM / DEN_E` (R67). -/
theorem fit_meanAbsResidual {p : Params} (h : p.Legal) (y : Nat → Int) :
    (fit p.n (offsetX p) y).e = (eNum p y : ℚ) / (denE p : ℚ) := by
  have hn : (0 : ℚ) < p.n := by have := h.2.1; positivity
  have hs : (0 : ℚ) < sxx p := by have := sxx_pos h; positivity
  rw [fit_residual, eNum, cast_sumTo, sumTo_eq_sum, sumTo_eq_sum, Finset.mul_sum, Finset.sum_div]
  refine Finset.sum_congr rfl (fun i _ => ?_)
  rw [deviation_eq h, absQ_eq_abs, absZ_eq_abs, abs_div, Int.cast_abs,
    abs_of_pos (mul_pos hn hs), denE]
  push_cast
  field_simp

/-- `e < T` on the exact residual is an integer comparison (R68). -/
theorem residual_lt_iff {p : Params} (h : p.Legal) (y : Nat → Int) (t : Nat) :
    (fit p.n (offsetX p) y).e < (t : ℚ) ↔ eNum p y < t * denE p := by
  have hd : (0 : ℚ) < denE p := by have := denE_pos h; positivity
  rw [fit_meanAbsResidual h, div_lt_iff₀ hd]
  exact_mod_cast Iff.rfl

/-- `e > T` on the exact residual is an integer comparison (R68). -/
theorem lt_residual_iff {p : Params} (h : p.Legal) (y : Nat → Int) (t : Nat) :
    (t : ℚ) < (fit p.n (offsetX p) y).e ↔ t * denE p < eNum p y := by
  have hd : (0 : ℚ) < denE p := by have := denE_pos h; positivity
  rw [fit_meanAbsResidual h, lt_div_iff₀ hd]
  exact_mod_cast Iff.rfl

/-- REGRESS on a full window of a legal instance answers the fit. -/
theorem regress_full {s : State} (hp : s.cfg.Legal) (hl : s.len = s.cfg.n) :
    regress s = .ok (fit s.cfg.n (offsetX s.cfg) s.w) := by
  have := hp.2.1
  unfold regress
  rw [if_neg (by omega), if_neg (by omega), hl]

theorem withRegress_full {s : State} (hp : s.cfg.Legal) (hl : s.len = s.cfg.n)
    (k : RegressionResult → Result) :
    withRegress s k = k (fit s.cfg.n (offsetX s.cfg) s.w) := by
  rw [withRegress, regress_full hp hl]

/-- If what follows a REGRESS answers a next state, the REGRESS answered a result. -/
theorem withRegress_next {s t : State} {k : RegressionResult → Result}
    (h : withRegress s k = .next t) : ∃ r, regress s = .ok r ∧ k r = .next t := by
  unfold withRegress at h
  split at h
  · exact ⟨_, ‹_›, h⟩
  · cases h

/-- A slot below `LEN` reads its sample. -/
theorem w_eq_getD {s : State} {i : Nat} (h : i < s.len) (d : Sample) :
    s.w i = (s.window.getD i d).toInt := by
  have h' : i < s.window.length := h
  simp [State.w, State.slot, sext24_eq_toInt, List.getD_eq_getElem?_getD,
    List.getElem?_eq_getElem h']

end Sys2Proof.Machine
end

