-- ==== Sys2Proof/Laws/Window.lean ====
section
/-! SUPPORT. What the window operations can do (40_sliding_window.md R60 to R63), and the chaining of outcomes. -/

namespace Sys2Proof.Machine

@[simp] theorem andThen_of_next (s : State) (k : State → Result) : andThen (.next s) k = k s := rfl

/-- Two operations answer a next state exactly when the first does and the second does from there. -/
theorem andThen_next {o : Result} {k : State → Result} {t : State} :
    andThen o k = .next t ↔ ∃ u, o = .next u ∧ k u = .next t := by
  cases o <;> simp [andThen]

/-- Everything a WIN_APPEND can do: the growth phase or the steady-state phase. -/
theorem winAppend_cases (v : Sample) (s : State) :
    (s.len < s.cfg.n ∧
      winAppend v s = s.setWindow (s.window ++ [v]) { kind := .grow, evicted := 0#24 }) ∨
    (s.cfg.n ≤ s.len ∧
      winAppend v s = s.setWindow (s.window.tail ++ [v]) { kind := .slide, evicted := s.slot 0 }) := by
  unfold winAppend
  split
  · exact .inl ⟨‹_›, rfl⟩
  · exact .inr ⟨by omega, rfl⟩

theorem winAppend_frame (v : Sample) (s : State) :
    ∃ w u, winAppend v s = s.setWindow w u := by
  rcases winAppend_cases v s with ⟨-, h⟩ | ⟨-, h⟩ <;> exact ⟨_, _, h⟩

@[simp] theorem winAppend_cfg (v : Sample) (s : State) : (winAppend v s).cfg = s.cfg := by
  obtain ⟨w, u, h⟩ := winAppend_frame v s; simp [h]

@[simp] theorem winAppend_mode (v : Sample) (s : State) : (winAppend v s).mode = s.mode := by
  obtain ⟨w, u, h⟩ := winAppend_frame v s; simp [h]

@[simp] theorem winAppend_backup (v : Sample) (s : State) : (winAppend v s).backup = s.backup := by
  obtain ⟨w, u, h⟩ := winAppend_frame v s; simp [h]

theorem winAppend_len_lt {v : Sample} {s : State} (h : s.len < s.cfg.n) :
    (winAppend v s).len = s.len + 1 := by
  rcases winAppend_cases v s with ⟨-, h'⟩ | ⟨h', -⟩
  · rw [h']; simp [State.len]
  · omega

theorem winAppend_len_full {v : Sample} {s : State} (h : s.len = s.cfg.n) (hn : 0 < s.cfg.n) :
    (winAppend v s).len = s.cfg.n := by
  rcases winAppend_cases v s with ⟨h', -⟩ | ⟨-, h'⟩
  · omega
  · rw [h']
    simp only [State.setWindow_len, List.length_append, List.length_tail, List.length_singleton]
    unfold State.len at h
    omega

/-- The oldest sample of a window that holds one. -/
theorem slot_zero {s : State} {v : Sample} {l : List Sample} (h : s.window = v :: l) : s.slot 0 = v := by
  simp [State.slot, h]

theorem winAppend_slide {s : State} {v w0 : Sample} {l : List Sample} (h : s.window = w0 :: l)
    (hl : s.len = s.cfg.n) :
    winAppend v s = s.setWindow (l ++ [v]) { kind := .slide, evicted := w0 } := by
  rcases winAppend_cases v s with ⟨h', -⟩ | ⟨-, h'⟩
  · omega
  · rw [h', slot_zero h, h, List.tail_cons]

/-- Everything WIN_REPLACE_LAST can do. -/
theorem winReplaceLast_cases (v : Sample) (s : State) :
    (s.window = [] ∧ winReplaceLast v s = .fault (.internalFault .replaceEmpty)) ∨
    (s.window ≠ [] ∧
      winReplaceLast v s = .next (s.setWindow (s.window.dropLast ++ [v]) { s.undo with kind := .none })) := by
  unfold winReplaceLast State.len
  rcases s.window.eq_nil_or_concat with h | ⟨l, x, h⟩
  · exact .inl ⟨h, by simp [h]⟩
  · exact .inr ⟨by simp [h], by simp [h]⟩

/-- If WIN_POP_LAST_UNDO answers a next state, it wrote the window and cleared the record's kind. -/
theorem winPopLastUndo_next {s t : State} (h : winPopLastUndo s = .next t) :
    (s.undo.kind = .grow ∧ t = s.setWindow s.window.dropLast { s.undo with kind := .none }) ∨
    (s.undo.kind = .slide ∧
      t = s.setWindow (s.undo.evicted :: s.window.dropLast) { s.undo with kind := .none }) := by
  unfold winPopLastUndo at h
  split at h <;> cases h
  · exact .inl ⟨‹_›, rfl⟩
  · exact .inr ⟨‹_›, rfl⟩

/-- The rollback of R78, from the full window that the tentative slide of `v` left. -/
theorem rollback_after_slide {s : State} {v w0 x : Sample} {m : List Sample}
    (h : s.window = w0 :: (m ++ [x])) (hl : s.len = s.cfg.n) :
    rollback v (winAppend v s) =
      .next (s.setWindow (m ++ [s.backup, v]) { kind := .slide, evicted := w0 }) := by
  have hn : (m ++ [x]).length + 1 = s.cfg.n := by rw [← hl, State.len, h]; rfl
  rw [winAppend_slide h hl]
  have hpop : winPopLastUndo (s.setWindow (m ++ [x] ++ [v]) { kind := .slide, evicted := w0 }) =
      .next (s.setWindow (w0 :: (m ++ [x])) { kind := .none, evicted := w0 }) := by
    simp only [winPopLastUndo, State.setWindow_undo, State.setWindow_window, List.dropLast_concat]
    rfl
  have hrep : winReplaceLast s.backup (s.setWindow (w0 :: (m ++ [x])) { kind := .none, evicted := w0 }) =
      .next (s.setWindow (w0 :: (m ++ [s.backup])) { kind := .none, evicted := w0 }) := by
    rcases winReplaceLast_cases s.backup
      (s.setWindow (w0 :: (m ++ [x])) { kind := .none, evicted := w0 }) with ⟨h', -⟩ | ⟨-, h'⟩
    · simp at h'
    · rw [h']
      have : (w0 :: (m ++ [x])).dropLast = w0 :: m := by
        rw [← List.cons_append, List.dropLast_concat]
      simp only [State.setWindow_window, this]
      rfl
  unfold rollback
  rw [hpop, andThen_of_next, State.setWindow_backup, hrep, andThen_of_next]
  rw [winAppend_slide (w0 := w0) (l := m ++ [s.backup]) rfl]
  · simp [State.setWindow]
  · simp at hn ⊢; omega

end Sys2Proof.Machine
end

