-- ==== Sys2Proof/Laws/Filter.lean ====
section
/-! SUPPORT. What the drift_filter's operations leave alone, and how their sums read on a full window (42_drift_filter.md R72 to R78). -/

namespace Sys2Proof.Machine

theorem SameOutsideFilter.trans {s t u : State} (h1 : SameOutsideFilter s t) (h2 : SameOutsideFilter t u) :
    SameOutsideFilter s u := by
  obtain ⟨a1, a2, a3, a4, a5, a6, a7, a8⟩ := h1
  obtain ⟨b1, b2, b3, b4, b5, b6, b7, b8⟩ := h2
  exact ⟨b1.trans a1, b2.trans a2, b3.trans a3, b4.trans a4, b5.trans a5, b6.trans a6, b7.trans a7,
    b8.trans a8⟩

theorem setWindow_outside (w : List Sample) (u : Undo) (s : State) :
    SameOutsideFilter s (s.setWindow w u) := by simp [SameOutsideFilter]

theorem setMode_outside (m : Mode) (s : State) : SameOutsideFilter s (s.setMode m) := by simp [SameOutsideFilter]

theorem winAppend_outside (v : Sample) (s : State) : SameOutsideFilter s (winAppend v s) := by
  obtain ⟨w, u, h⟩ := winAppend_frame v s
  rw [h]
  exact setWindow_outside w u s

theorem winReplaceLast_outside {v : Sample} {s t : State} (h : winReplaceLast v s = .next t) :
    SameOutsideFilter s t := by
  rcases winReplaceLast_cases v s with ⟨-, h'⟩ | ⟨-, h'⟩
  · rw [h'] at h; cases h
  · rw [h'] at h; cases h; exact setWindow_outside _ _ s

theorem winPopLastUndo_outside {s t : State} (h : winPopLastUndo s = .next t) :
    SameOutsideFilter s t := by
  rcases winPopLastUndo_next h with ⟨-, rfl⟩ | ⟨-, rfl⟩ <;> exact setWindow_outside _ _ s

theorem updateOutputs_outside (r : RegressionResult) (s : State) :
    SameOutsideFilter s (updateOutputs r s) := by simp [SameOutsideFilter, updateOutputs]

theorem filterReset_outside (s : State) : SameOutsideFilter s s.filterReset := by simp [SameOutsideFilter]

theorem rollback_outside {v : Sample} {s t : State} (h : rollback v s = .next t) :
    SameOutsideFilter s t := by
  unfold rollback at h
  obtain ⟨u, hu, h⟩ := andThen_next.mp h
  obtain ⟨u', hu', h⟩ := andThen_next.mp h
  cases h
  exact ((winPopLastUndo_outside hu).trans (winReplaceLast_outside hu')).trans (winAppend_outside v u')

/-- A FILTER_STEP that answers a next state changes nothing outside the filter. -/
theorem filterStep_outside {v : Sample} {s t : State} (h : filterStep v s = .next t) :
    SameOutsideFilter s t := by
  have ha := winAppend_outside v s
  unfold filterStep at h
  split at h
  · simp only [fillStep] at h
    split at h
    · obtain ⟨r, -, h⟩ := withRegress_next h
      cases h
      exact (ha.trans (updateOutputs_outside r _)).trans (setMode_outside _ _)
    · cases h; exact ha
  · obtain ⟨r, -, h⟩ := withRegress_next h
    cases h
    refine (ha.trans (updateOutputs_outside r _)).trans ?_
    split
    · simp [SameOutsideFilter, suspect]
    · simp [SameOutsideFilter]
  · obtain ⟨r, -, h⟩ := withRegress_next h
    split at h
    · cases h
      exact (ha.trans (updateOutputs_outside r _)).trans (setMode_outside _ _)
    · obtain ⟨u, hu, h⟩ := andThen_next.mp h
      obtain ⟨r', -, h⟩ := withRegress_next h
      cases h
      exact ((ha.trans (rollback_outside hu)).trans (updateOutputs_outside r' u)).trans
        (setMode_outside _ _)

/-- The sum of a list of samples, slot by slot. -/
theorem sumTo_sampleAt (l : List Sample) : sumTo l.length (sampleAt l) = windowSum l := by
  induction l using List.reverseRecOn with
  | nil => rfl
  | append_singleton l x ih =>
    have h1 : sumTo l.length (sampleAt (l ++ [x])) = sumTo l.length (sampleAt l) :=
      sumTo_congr (fun i hi => by
        simp [sampleAt, List.getD_eq_getElem?_getD, List.getElem?_append_left hi])
    have h2 : sampleAt (l ++ [x]) l.length = x.toInt := by
      simp [sampleAt, List.getD_eq_getElem?_getD]
    rw [List.length_append, List.length_singleton, sumTo_succ, h1, h2, ih]
    simp [windowSum]

/-- On a full window the slots read the list. -/
theorem w_eq_sampleAt {s : State} (hl : s.len = s.cfg.n) :
    ∀ i, i < s.cfg.n → s.w i = sampleAt s.window i :=
  fun _ hi => w_eq_getD (by omega) _

/-- UPDATE_OUTPUTS on the full window of a legal instance publishes the window's exact sums, and the
threshold decision in integers (R73, R68). -/
theorem updateOutputs_full {s : State} (hp : s.cfg.Legal) (hl : s.len = s.cfg.n) :
    updateOutputs (fit s.cfg.n (offsetX s.cfg) s.w) s = s.publishing s.window := by
  have hw := w_eq_sampleAt hl
  have h1 : sumTo s.cfg.n s.w = windowSum s.window := by
    rw [← sumTo_sampleAt, ← hl]
    exact sumTo_congr (fun i hi => hw i (by omega))
  have h2 : sumTo s.cfg.n (fun i => offsetX s.cfg i * s.w i) = weightedSum s.cfg s.window :=
    sumTo_congr (fun i hi => by rw [hw i hi])
  have h3 : eNum s.cfg s.w = residualSum s.cfg s.window := eNum_congr hw
  have h4 : stableRule s.cfg (fit s.cfg.n (offsetX s.cfg) s.w).e =
      decide (residualSum s.cfg s.window < s.cfg.ts * denE s.cfg) := by
    unfold stableRule
    rw [← h3]
    exact decide_eq_decide.mpr (residual_lt_iff hp s.w s.cfg.ts)
  have h5 : (s.setOutputs (BitVec.ofInt 32 (windowSum s.window))
      (BitVec.ofInt 32 (weightedSum s.cfg s.window))
      (decide (residualSum s.cfg s.window < s.cfg.ts * denE s.cfg))).countDraw =
      s.publishing s.window := by
    unfold State.countDraw State.publishing
    rw [if_neg (by simp only [State.setOutputs_len, State.setOutputs_cfg]; omega)]
    rfl
  rw [updateOutputs, h1, h2, h4, h5]

end Sys2Proof.Machine
end

