-- ==== Sys2Proof/Laws/PerInstr.lean ====
section
/-! SUPPORT. Statements made of every operation, one lemma per constructor. -/

/-- Family CommandWord: exactly the operations of format CMD have a word, and it decodes to them
(30_encoding.md R54). -/
def Sys2Proof.Laws.CommandWord.Statement (i : Sys2Proof.Instr) : Prop :=
  ((Sys2Proof.encode i).isSome = true ↔ i.format = .cmd) ∧
  ∀ w, Sys2Proof.encode i = some w → Sys2Proof.decode w = .ok i

namespace Sys2Proof.Laws.CommandWord

theorem configure : Statement .configure := by
  refine ⟨by decide, fun w h => ?_⟩; cases h; decide

theorem powerOn : Statement .powerOn := by
  refine ⟨by decide, fun w h => ?_⟩; cases h; decide

theorem powerOff : Statement .powerOff := by
  refine ⟨by decide, fun w h => ?_⟩; cases h; decide

theorem start (f : MilliHz) : Statement (.start f) := by
  refine ⟨by simp [encode, Instr.format], fun w h => ?_⟩
  cases h
  simp [decode]

theorem stop : Statement .stop := by
  refine ⟨by decide, fun w h => ?_⟩; cases h; decide

theorem tick (ready : Bool) (raw : Sample) : Statement (.tick ready raw) := by
  simp [Statement, encode, Instr.format]

theorem poll (ready : Bool) : Statement (.poll ready) := by
  simp [Statement, encode, Instr.format]

theorem winAppend (v : Sample) : Statement (.winAppend v) := by
  simp [Statement, encode, Instr.format]

theorem winReplaceLast (v : Sample) : Statement (.winReplaceLast v) := by
  simp [Statement, encode, Instr.format]

theorem winPopLastUndo : Statement .winPopLastUndo := by
  simp [Statement, encode, Instr.format]

theorem regress : Statement .regress := by
  simp [Statement, encode, Instr.format]

theorem filterReset : Statement .filterReset := by
  simp [Statement, encode, Instr.format]

theorem filterStep (s : Sample) : Statement (.filterStep s) := by
  simp [Statement, encode, Instr.format]

theorem updateOutputs (r : RegressionResult) : Statement (.updateOutputs r) := by
  simp [Statement, encode, Instr.format]

end Sys2Proof.Laws.CommandWord
end

