-- ==== Sys2Proof/Laws/Step.lean ====
section
/-! SUPPORT. What a command, an event and a step can do, said once (43_scheduler.md R80 to R86; 20_memory.md R37 to R39, R45). -/

namespace Sys2Proof.Machine

/-- A command on the port is held and changes nothing, or it has its effect. -/
theorem onCommandPort_next {s t : State} {k : State → State} (h : onCommandPort s k = .next t) :
    (s.dev = .poweringOn ∧ t = s) ∨ (s.dev ≠ .poweringOn ∧ t = k s) := by
  unfold onCommandPort at h
  split at h <;> cases h
  · exact .inl ⟨‹_›, rfl⟩
  · exact .inr ⟨‹_›, rfl⟩

theorem configureEffect_cases (s : State) :
    (s.dev = .uninitialized ∧ configureEffect s = ((s.setDev .configured).pulseCfg).complete .ok) ∨
    (s.dev ≠ .uninitialized ∧ configureEffect s = s.complete .noop) := by
  unfold configureEffect
  split
  · exact .inl ⟨‹_›, rfl⟩
  · exact .inr ⟨‹_›, rfl⟩

theorem powerOnEffect_cases (s : State) :
    ((s.dev = .configured ∨ s.dev = .poweredOff) ∧ powerOnEffect s = s.setDev .poweringOn) ∨
    (¬(s.dev = .configured ∨ s.dev = .poweredOff) ∧ powerOnEffect s = s.complete .noop) := by
  unfold powerOnEffect
  split
  · exact .inl ⟨‹_›, rfl⟩
  · exact .inr ⟨‹_›, rfl⟩

theorem powerOffEffect_cases (s : State) :
    ((s.dev = .ready ∨ s.dev = .periodic) ∧
      powerOffEffect s = ((s.setArmed false).setDev .poweredOff).complete .ok) ∨
    (¬(s.dev = .ready ∨ s.dev = .periodic) ∧ powerOffEffect s = s.complete .noop) := by
  unfold powerOffEffect
  split
  · exact .inl ⟨‹_›, rfl⟩
  · exact .inr ⟨‹_›, rfl⟩

theorem startEffect_cases (f : MilliHz) (s : State) :
    (s.dev = .periodic ∧ startEffect f s = s.complete .alreadyRunning) ∨
    (s.dev ≠ .periodic ∧ s.dev ≠ .ready ∧ startEffect f s = s.complete .notReady) ∨
    (s.dev = .ready ∧ frequencyInRange s.cfg f = false ∧ startEffect f s = s.complete .badFrequency) ∨
    (s.dev = .ready ∧ frequencyInRange s.cfg f = true ∧
      startEffect f s = (((s.filterReset.setFreq f).setDev .periodic).setArmed true).complete .ok) := by
  unfold startEffect
  split_ifs with h1 h2 h3
  · exact .inl ⟨h1, rfl⟩
  · exact .inr (.inl ⟨h1, h2, rfl⟩)
  · exact .inr (.inr (.inl ⟨not_not.mp h2, h3, rfl⟩))
  · exact .inr (.inr (.inr ⟨not_not.mp h2, by simpa using h3, rfl⟩))

theorem stopEffect_cases (s : State) :
    (s.dev = .periodic ∧ stopEffect s = ((s.setArmed false).setDev .ready).complete .ok) ∨
    (s.dev ≠ .periodic ∧ stopEffect s = s.complete .noop) := by
  unfold stopEffect
  split
  · exact .inl ⟨‹_›, rfl⟩
  · exact .inr ⟨‹_›, rfl⟩

/-- Everything a TICK can do. -/
theorem execTick_cases (ready : Bool) (raw : Sample) (s : State) :
    ((s.armed = false ∨ ready = false) ∧ execTick ready raw s = .next s) ∨
    (s.armed = true ∧ ready = true ∧ raw = sentinel ∧ execTick ready raw s = .next s.pulseRd) ∨
    (s.armed = true ∧ ready = true ∧ raw ≠ sentinel ∧
      execTick ready raw s = filterStep raw s.pulseRd) := by
  unfold execTick isSentinel
  cases ha : s.armed <;> cases ready <;> by_cases hr : raw = sentinel <;> simp [hr]

/-- Everything a POLL can do. -/
theorem execPoll_cases (ready : Bool) (s : State) :
    (s.dev = .poweringOn ∧ ready = true ∧
      execPoll ready s = .next ((s.setDev .ready).complete .ok)) ∨
    (¬(s.dev = .poweringOn ∧ ready = true) ∧ execPoll ready s = .next s) := by
  unfold execPoll
  split
  · exact .inl ⟨‹_ ∧ _›.1, ‹_ ∧ _›.2, rfl⟩
  · exact .inr ⟨‹_›, rfl⟩

/-- A command word executes one of the five commands, or completes as ILLEGAL. -/
theorem execWord_cases (w : Word) (s : State) :
    (∃ i, decode w = .ok i ∧
      (i = .configure ∨ i = .powerOn ∨ i = .powerOff ∨ (∃ f, i = .start f) ∨ i = .stop) ∧
      execWord w s = exec i s) ∨
    (∃ e, decode w = .error e ∧ execWord w s = .next (s.complete .illegal)) := by
  unfold execWord
  cases h : decode w with
  | error e => exact .inr ⟨e, rfl, rfl⟩
  | ok i =>
    refine .inl ⟨i, rfl, ?_, rfl⟩
    rcases decode_ok h with ⟨-, -, rfl⟩ | ⟨-, -, rfl⟩ | ⟨-, -, rfl⟩ | ⟨-, rfl⟩ | ⟨-, -, rfl⟩ <;> simp

/-- Everything a step that answers a next state can have done. -/
theorem step_next {s t : State} (h : step s = .next t) :
    (s.schedule = [] ∧ t = s.quiet) ∨
    (∃ ts, s.schedule = .host :: ts ∧ s.hostQueue = [] ∧ t = s.quiet.setSchedule ts) ∨
    (∃ ts a rest v, s.schedule = .host :: ts ∧ s.hostQueue = a :: rest ∧ a.wr = false ∧
      s.readRegister a.off = some v ∧
      t = ((s.quiet.setSchedule ts).setHostQueue rest).answer v) ∨
    (∃ ts a rest, s.schedule = .host :: ts ∧ s.hostQueue = a :: rest ∧ a.wr = true ∧
      s.dev = .poweringOn ∧ t = s.quiet.setSchedule ts) ∨
    (∃ ts a rest, s.schedule = .host :: ts ∧ s.hostQueue = a :: rest ∧ a.wr = true ∧
      a.off = 0x00#6 ∧ s.dev ≠ .poweringOn ∧
      execWord a.wdata ((s.quiet.setSchedule ts).setHostQueue rest) = .next t) ∨
    (∃ ts ready raw, s.schedule = .timer ready raw :: ts ∧
      exec (.tick ready raw) (s.quiet.setSchedule ts) = .next t) ∨
    (∃ ts ready, s.schedule = .poller ready :: ts ∧
      exec (.poll ready) (s.quiet.setSchedule ts) = .next t) ∨
    (∃ ts, s.schedule = .blockReset :: ts ∧ t = (s.quiet.setSchedule ts).blockReset) := by
  unfold step stepBlock at h
  cases hs : s.schedule with
  | nil =>
    rw [hs] at h; cases h
    exact .inl ⟨rfl, rfl⟩
  | cons u ts =>
    rw [hs] at h
    cases u with
    | timer ready raw =>
      exact .inr (.inr (.inr (.inr (.inr (.inl ⟨ts, ready, raw, rfl, h⟩)))))
    | poller ready =>
      exact .inr (.inr (.inr (.inr (.inr (.inr (.inl ⟨ts, ready, rfl, h⟩))))))
    | blockReset =>
      cases h
      exact .inr (.inr (.inr (.inr (.inr (.inr (.inr ⟨ts, rfl, rfl⟩))))))
    | host =>
      simp only [takeTurn, hostTurn, State.setSchedule_hostQueue, State.quiet_hostQueue] at h
      cases hq : s.hostQueue with
      | nil =>
        rw [hq] at h; cases h
        exact .inr (.inl ⟨ts, rfl, rfl, rfl⟩)
      | cons a rest =>
        rw [hq] at h
        cases hw : a.wr with
        | false =>
          simp only [hw, if_true, regRead] at h
          split at h
          · split at h
            · cases h
              exact .inr (.inr (.inl ⟨ts, a, rest, _, rfl, rfl, hw, ‹_›, rfl⟩))
            · cases h
          · cases h
        | true =>
          simp only [hw, Bool.true_eq_false, if_false] at h
          split at h
          · cases h
          · split at h
            · cases h
              exact .inr (.inr (.inr (.inl ⟨ts, a, rest, rfl, rfl, hw, ‹_›, rfl⟩)))
            · rename_i hn hd
              simp only [not_or, not_not] at hn
              exact .inr (.inr (.inr (.inr (.inl ⟨ts, a, rest, rfl, rfl, hw, hn.2, hd, h⟩))))

/-- The claims' runs are the host's runs of the core. -/
theorem runSteps_eq_run (k : Nat) (s : State) : runSteps k s = Sys2Proof.core.run k s := by
  induction k generalizing s with
  | zero => rfl
  | succ k ih =>
    have h : Sys2Proof.core.run (k + 1) s = andThen (step s) (Sys2Proof.core.run k) := by
      cases hs : step s <;> (conv_lhs => whnf) <;> (simp only [Sys2Proof.core]; rw [hs]; rfl)
    rw [h, runSteps, funext ih]

end Sys2Proof.Machine
end

