-- ==== Sys2Proof/Tests/Slice0.lean ====
section
/-! SUPPORT. The model's own tests and the witnesses of the statements' hypotheses. Expected values are those of spec/95_test_vectors.md (ids V-...) or the examples of the rules named. -/

namespace Sys2Proof.Tests

open Sys2Proof
open Sys2Proof.Machine

/-! ### Helpers -/

/-- `VARIANT_BB`, right after block reset, but with this `DEV`. -/
def inDev (d : Dev) : State := { State.resetOf Config.variantBB with dev := d }

/-- The test parameters `T3` of 95_test_vectors.md. -/
def t3 : Params := { n := 3, ts := 250, tr := 10000, ta := 500, recheckEn := true, maxRate := 2000 }

/-- Samples from integers. -/
def samples (l : List Int) : List Sample := l.map (BitVec.ofInt 24)

/-- A `T3` block with this window and undo record, for the window operations. -/
def win3 (l : List Int) (k : UndoKind) (ev : Int) : State :=
  { State.resetOf t3 with window := samples l, undo := { kind := k, evicted := BitVec.ofInt 24 ev } }

/-- An acquiring block in this mode, with this window and backup, its outputs published if it is primed. -/
def running (p : Params) (m : Mode) (l : List Int) (b : Int) : State :=
  let s := { State.resetOf p with
    dev := .periodic, armed := true, freq := 500#24, mode := m, window := samples l,
    backup := BitVec.ofInt 24 b }
  if m = .filling then s else s.publishing (samples l)

/-- The block with this access next. -/
def accessing (a : HostAccess) (s : State) : State := { s with hostQueue := [a], schedule := [.host] }

/-- The block with this turn next. -/
def turning (t : Turn) (s : State) : State := { s with schedule := [t] }

/-- A next state with this property. -/
def answers (o : Result) (f : State → Bool) : Bool :=
  match o with
  | .next t => f t
  | .fault _ => false
  | .refused _ => false

/-- The fault of an outcome. -/
def faultOf (o : Result) : Option Fault :=
  match o with
  | .next _ => none
  | .fault r => some r
  | .refused _ => none

/-- The value a step's read answered. -/
def readBack (o : Result) : Option Word :=
  match o with
  | .next t => match t.signals.reply with
    | .data v => some v
    | .okAccess => none
    | .idle => none
  | .fault _ => none
  | .refused _ => none

/-- The window, as integers. -/
def State.ints (s : State) : List Int := s.window.map BitVec.toInt

/-- `MODE`, `MEAN_NUM`, `TREND_NUM`, `STABLE`, `BACKUP` and `STATUS`. -/
def filterView (s : State) : Mode × Int × Int × Bool × Int × Nat :=
  (s.mode, s.meanNum.toInt, s.trendNum.toInt, s.stable, s.backup.toInt, s.statusWord.toNat)

/-! ### WellFormed refuses an ill-formed term of each check -/

theorem test_wf_refuses_sentinel : (Instr.filterStep 0x7FFFFF#24).wf = false := by decide
theorem test_wf_admits_largest : (Instr.filterStep 0x7FFFFE#24).wf = true := by decide
theorem test_wf_refuses_negative_residual : (Instr.updateOutputs { a := 0, b := 0, e := -1 }).wf = false := by
  decide
theorem test_wf_admits_zero_residual : (Instr.updateOutputs { a := 0, b := 0, e := 0 }).wf = true := by decide

/-! ### Decoding: words written out from the layout of R51 and the opcodes of R54 -/

theorem test_decode_configure : decode 0b00000001000000000000000000000000#32 = .ok .configure := by decide
theorem test_decode_powerOn : decode 0b00000010000000000000000000000000#32 = .ok .powerOn := by decide
theorem test_decode_powerOff : decode 0b00000011000000000000000000000000#32 = .ok .powerOff := by decide
theorem test_decode_start : decode 0b00000100000000000000011111010000#32 = .ok (.start 2000#24) := by decide
theorem test_decode_stop : decode 0b00000101000000000000000000000000#32 = .ok .stop := by decide
/-- V-E5, V-E6. -/
theorem test_decode_start_bounds :
    decode 0x040001F4#32 = .ok (.start 500#24) ∧ decode 0x04FFFFFF#32 = .ok (.start 16777215#24) := by decide
/-- V-E8 to V-E12. -/
theorem test_decode_illegal :
    decode 0x00000000#32 = .error .reservedOpcode ∧ decode 0x05000001#32 = .error .nonzeroImm ∧
    decode 0x01800000#32 = .error .nonzeroImm ∧ decode 0x06000000#32 = .error .reservedOpcode ∧
    decode 0xFFFFFFFF#32 = .error .reservedOpcode := by decide
/-- R40: lane 0 carries bits 7 to 0. -/
theorem test_decode_lanes :
    decodeLanes [0xD0#8, 0x07#8, 0x00#8, 0x04#8] = some (.ok (.start 2000#24), []) := by decide
theorem test_encode_start : encode (.start 2000#24) = some 0x040007D0#32 := by decide
/-- R54: events and internal operations have no word. -/
theorem test_encode_no_word :
    [Instr.tick true 0#24, .poll true, .winAppend 0#24, .winReplaceLast 0#24, .winPopLastUndo, .regress,
      .filterReset, .filterStep 0#24, .updateOutputs { a := 0, b := 0, e := 0 }].map encode =
    List.replicate 9 none := by decide
/-- The opcode table's words. -/
theorem test_table_words :
    [0x01000000, 0x02000000, 0x03000000, 0x04000000, 0x05000000].map (decodeTableWord 32) =
    [some .configure, some .powerOn, some .powerOff, some (.start 0#24), some .stop] := by decide
/-- V-E14, V-E15, V-E16. -/
theorem test_sample_codes :
    sext24 0x800000#24 = -8388608 ∧ sext24 0x7FFFFE#24 = 8388606 ∧ sext24 0xFFFFFF#24 = -1 ∧
    isSentinel 0x7FFFFF#24 = true ∧ isSentinel 0x800000#24 = false := by decide
/-- R58. -/
theorem test_notation_restart :
    assemble (.restart 500) = some [.access (commandWrite 0x05000000#32), .access (commandWrite 0x040001F4#32)] ∧
    assemble (.startHz (1 / 2)) = some [.access (commandWrite 0x040001F4#32)] ∧
    assemble (.start 0x1000000) = none := by decide +kernel

/-! ### A word placed next runs as the first instruction after reset -/

theorem test_first_configure :
    answers (step (State.reset.withFetchWord 32 0x01000000)) (fun t =>
      decide (t.dev = .configured) && t.signals.srcCfg && decide (t.result = .ok)) = true := by decide
/-- V-S9: NOT_READY outranks BAD_FREQUENCY. -/
theorem test_first_start :
    answers (step (State.reset.withFetchWord 32 0x04000000)) (fun t =>
      decide (t.dev = .uninitialized) && decide (t.result = .notReady)) = true := by decide
/-- V-Z2, and a block with no turn. -/
theorem test_reset_idle :
    answers (step (turning (.timer true 5#24) State.reset)) (fun t => decide (t.window = [])) = true ∧
    answers (step State.reset) (fun t => decide (t = State.reset)) = true := by decide

/-! ### Commands and events (V-S1 to V-S23) -/

theorem test_configure_again :
    answers (exec .configure (inDev .configured)) (fun t =>
      decide (t.dev = .configured) && decide (t.result = .noop) && !t.signals.srcCfg) = true := by decide
/-- V-S3, V-S4. -/
theorem test_powerOn :
    answers (exec .powerOn (inDev .uninitialized)) (fun t =>
      decide (t.dev = .uninitialized) && decide (t.result = .noop)) = true ∧
    answers (exec .powerOn (inDev .configured)) (fun t =>
      decide (t.dev = .poweringOn) && t.srcPwr && decide (t.signals.reply = .idle)) = true := by decide
/-- V-S4's two polls. -/
theorem test_poll :
    answers (exec (.poll false) (inDev .poweringOn)) (fun t => decide (t.dev = .poweringOn)) = true ∧
    answers (exec (.poll true) (inDev .poweringOn)) (fun t =>
      decide (t.dev = .ready) && decide (t.result = .ok) && decide (t.signals.reply = .okAccess)) = true := by
  decide
/-- V-S15, V-S16. -/
theorem test_powerOff :
    answers (exec .powerOff (running Config.variantBB .filling [7] 0)) (fun t =>
      decide (t.dev = .poweredOff) && !t.armed && !t.srcPwr && decide (t.len = 1) &&
      decide (t.freq = 500#24) && decide (t.result = .ok)) = true ∧
    answers (exec .powerOff (inDev .configured)) (fun t =>
      decide (t.dev = .configured) && decide (t.result = .noop)) = true := by decide
/-- V-S6, V-S7, V-S8: the frequency's range is inclusive at the top. -/
theorem test_start_range :
    answers (exec (.start 2000#24) (inDev .ready)) (fun t =>
      decide (t.dev = .periodic) && t.armed && decide (t.freq = 2000#24) && decide (t.result = .ok)) = true ∧
    answers (exec (.start 2001#24) (inDev .ready)) (fun t =>
      decide (t.dev = .ready) && decide (t.result = .badFrequency)) = true ∧
    answers (exec (.start 0#24) (inDev .ready)) (fun t => decide (t.result = .badFrequency)) = true := by decide
/-- V-S10: ALREADY_RUNNING outranks BAD_FREQUENCY; V-S23: a success resets the filter. -/
theorem test_start_running_and_reset :
    answers (exec (.start 0#24) (running Config.variantBB .filling [7] 0)) (fun t =>
      decide (t.result = .alreadyRunning) && decide (t.len = 1)) = true ∧
    answers (exec (.start 500#24) { running t3 .tracking [1, 2, 3] 9 with dev := .ready, armed := false })
      (fun t => decide (t.len = 0) && decide (t.mode = .filling) && decide (t.meanNum = 0#32) &&
        decide (t.backup = 0#24)) = true := by decide
/-- V-S13, V-S14. -/
theorem test_stop :
    answers (exec .stop (running t3 .tracking [1, 2, 3] 9)) (fun t =>
      decide (t.dev = .ready) && !t.armed && decide (t.len = 3) && decide (t.result = .ok)) = true ∧
    answers (exec .stop (inDev .ready)) (fun t => decide (t.result = .noop)) = true := by decide
/-- V-S18, V-S19. -/
theorem test_tick_dropped :
    answers (exec (.tick true 0x7FFFFF#24) (running t3 .tracking [1, 2, 3] 9)) (fun t =>
      decide (State.ints t = [1, 2, 3]) && t.signals.srcRd) = true ∧
    answers (exec (.tick false 0#24) (running t3 .tracking [1, 2, 3] 9)) (fun t =>
      decide (State.ints t = [1, 2, 3]) && !t.signals.srcRd) = true := by decide
/-- V-S20, V-S21: `0x800000` is a sample. -/
theorem test_tick_samples :
    answers (exec (.tick true 0x800000#24) (running Config.variantBB .filling [] 0)) (fun t =>
      decide (State.ints t = [-8388608])) = true ∧
    answers (exec (.tick true 0xFFFF9C#24) (running Config.variantBB .filling [] 0)) (fun t =>
      decide (State.ints t = [-100])) = true := by decide
/-- R95.4, V-E9: an illegal STOP in PERIODIC does not stop. -/
theorem test_illegal_stop :
    answers (step (accessing (commandWrite 0x05000001#32) (running t3 .filling [7] 0))) (fun t =>
      decide (t.dev = .periodic) && t.armed && decide (t.result = .illegal)) = true := by decide
/-- V-M9: the write holds while POWERING_ON. -/
theorem test_hold :
    answers (step (accessing (commandWrite 0x05000000#32) (inDev .poweringOn))) (fun t =>
      decide (t.signals.reply = .idle) && decide (t.hostQueue = [commandWrite 0x05000000#32])) = true := by decide

/-! ### sliding_window_buffer (V-W1 to V-W9) -/

/-- V-W2, V-W9. -/
theorem test_winAppend :
    answers (exec (.winAppend 4#24) (win3 [1, 2, 3] .none 0)) (fun t =>
      decide (State.ints t = [2, 3, 4]) && decide (t.undo = { kind := .slide, evicted := 1#24 })) = true ∧
    answers (exec (.winAppend 0x7FFFFE#24) (win3 [-8388608, 0] .grow 0)) (fun t =>
      decide (State.ints t = [-8388608, 0, 8388606]) && decide (t.undo.kind = .grow)) = true := by decide
/-- V-W5, V-W7. -/
theorem test_winReplaceLast :
    answers (exec (.winReplaceLast 9#24) (win3 [1, 2, 3] .slide 0)) (fun t =>
      decide (State.ints t = [1, 2, 9]) && decide (t.undo.kind = .none)) = true ∧
    faultOf (exec (.winReplaceLast 5#24) (win3 [] .none 0)) = some (.internalFault .replaceEmpty) := by decide
/-- V-W3, V-W4, V-W6. -/
theorem test_winPopLastUndo :
    answers (exec .winPopLastUndo (win3 [2, 3, 4] .slide 1)) (fun t =>
      decide (State.ints t = [1, 2, 3]) && decide (t.undo.kind = .none)) = true ∧
    answers (exec .winPopLastUndo (win3 [7] .grow 0)) (fun t => decide (State.ints t = [])) = true ∧
    faultOf (exec .winPopLastUndo (win3 [1, 2, 9] .none 0)) = some (.internalFault .undoEmpty) := by decide

/-! ### regression_engine (V-R1 to V-R16) -/

/-- V-R1. -/
theorem test_regress_t3 :
    answers (exec .regress (win3 [1, 2, 4] .none 0)) (fun t =>
      decide (t.signals.regress = some { a := 3 / 2, b := 7 / 3, e := 2 / 9 })) = true := by decide +kernel
/-- V-R15, V-R16. -/
theorem test_regress_short :
    answers (exec .regress (win3 [1, 2] .none 0)) (fun t =>
      decide (t.signals.regress = some { a := 0, b := 0, e := 0 })) = true ∧
    faultOf (exec .regress { State.resetOf Config.variantBB with window := samples [1, 2, 3, 4, 5] }) =
      some (.internalFault .partialWindow) := by decide
/-- V-R8, V-R9, V-R10: the integer residual at each threshold. -/
theorem test_residual_at_thresholds :
    residualSum Config.variantBB (samples ([0, 1250, -1250] ++ List.replicate 8 0)) = 3327500 ∧
    residualSum Config.variantBB (samples (List.replicate 5 0 ++ [3025] ++ List.replicate 5 0)) = 6655000 ∧
    residualSum Config.variantBB (samples (List.replicate 5 0 ++ [60500] ++ List.replicate 5 0)) = 133100000 := by
  decide

/-! ### drift_filter (V-F1 to V-F17) -/

theorem test_filterReset :
    answers (exec .filterReset (running t3 .tracking [1, 2, 3] 9)) (fun t =>
      decide (filterView t = (.filling, 0, 0, false, 0, 0x0C))) = true := by decide
/-- R73's example, and `r.e = P_TS` is not stable. -/
theorem test_updateOutputs :
    answers (exec (.updateOutputs { a := 1, b := 2, e := 0 }) (win3 [1, 2, 3] .none 0)) (fun t =>
      decide (t.meanNum = 6#32) && decide (t.trendNum = 2#32) && t.stable) = true ∧
    answers (exec (.updateOutputs { a := 0, b := 0, e := 250 }) (win3 [1, 2, 3] .none 0)) (fun t => !t.stable)
      = true := by decide
/-- V-F4b: the priming sample publishes. -/
theorem test_fill_primes :
    answers (exec (.filterStep 0#24) (running Config.variantBB .filling
        ([0, 1249, -1249] ++ List.replicate 7 0) 0)) (fun t =>
      decide (filterView t = (.tracking, 0, -1249, true, 0, 0xB5C))) = true := by decide +kernel
/-- V-F5: BACKUP is `W[0]` of the suspect window. -/
theorem test_track_suspect :
    answers (exec (.filterStep 101000#24) (running Config.variantBB .tracking
        ([999] ++ List.replicate 10 1000) 0)) (fun t =>
      decide (filterView t = (.rechecking, 111000, 500000, false, 1000, 0xBAC))) = true := by decide +kernel
/-- V-F7: a residual of exactly `P_TR` is not suspect. -/
theorem test_track_at_threshold :
    answers (exec (.filterStep 0#24) (running Config.variantBB .tracking
        (List.replicate 6 0 ++ [60500] ++ List.replicate 4 0) 0)) (fun t =>
      decide (filterView t = (.tracking, 60500, 0, false, 0, 0xB1C))) = true := by decide +kernel
/-- V-F10: the rollback puts BACKUP second to last. -/
theorem test_recheck_rollback :
    answers (exec (.filterStep 50000#24) (running Config.variantBB .rechecking
        ([101000] ++ List.replicate 10 1000) 101000)) (fun t =>
      decide (filterView t = (.tracking, 160000, 645000, false, 101000, 0xB1C)) &&
      decide (State.ints t = List.replicate 9 1000 ++ [101000, 50000])) = true := by decide +kernel
/-- V-F8: the recheck accepts. -/
theorem test_recheck_accept :
    answers (exec (.filterStep 1000#24) (running Config.variantBB .rechecking
        ([101000] ++ List.replicate 10 1000) 101000)) (fun t =>
      decide (filterView t = (.tracking, 11000, 0, true, 101000, 0xB5C))) = true := by decide +kernel

/-! ### Register interface (V-M1 to V-M8) and reset (V-Z1) -/

/-- V-M2. -/
theorem test_read_configuration :
    [0x18#6, 0x1C#6, 0x20#6, 0x24#6, 0x28#6, 0x2C#6].map (fun o =>
      readBack (step (accessing (registerRead o) State.reset))) =
    [some 0x10B#32, some 0x6E#32, some 0xFA#32, some 0x2710#32, some 0x1F4#32, some 0x7D0#32] := by decide
/-- V-M4 to V-M8. -/
theorem test_access_faults :
    [registerRead 0x00#6, { wr := true, off := 0x08#6, size := 2#2, wdata := 0#32 }, registerRead 0x30#6,
      { wr := false, off := 0x08#6, size := 0#2, wdata := 0#32 }, registerRead 0x06#6].map (fun a =>
      faultOf (step (accessing a State.reset))) = List.replicate 5 (some .accessFault) := by decide
/-- V-M1, V-Z1. -/
theorem test_reset_registers :
    [0x04#6, 0x08#6, 0x0C#6, 0x10#6, 0x14#6].map State.reset.readRegister = List.replicate 5 (some 0#32) ∧
    State.reset.srcPwr = false := by decide

/-! ### Witnesses: states and operands that meet the hypotheses of the statements in Obligations.lean

Each is named after its statement; one conjunct for each clause that has hypotheses, at boundary values. -/

/-- The smallest and the largest legal parameters of R5. -/
def smallest : Params := { n := 3, ts := 0, tr := 0, ta := 0, recheckEn := false, maxRate := 1 }
def largest : Params :=
  { n := 31, ts := 2 ^ 32 - 1, tr := 2 ^ 32 - 1, ta := 2 ^ 32 - 1, recheckEn := true, maxRate := 2 ^ 24 - 1 }

/-- Acquiring `T3` blocks in each mode; each meets the invariant. -/
def filling3 : State := running t3 .filling [1, 2] 0
def tracking3 : State := running t3 .tracking [1, 2, 3] 0
def rechecking3 : State := running t3 .rechecking [1, 2, 3] 1

theorem exists_of_answers {o : Result} {f : State → Bool} (h : answers o f = true) :
    ∃ t, o = .next t ∧ f t = true := by
  cases o with
  | next t => exact ⟨t, rfl, h⟩
  | fault r => cases h
  | refused r => cases h

theorem filling3_inv : filling3.Inv := by decide +kernel
theorem tracking3_inv : tracking3.Inv := by decide +kernel
theorem rechecking3_inv : rechecking3.Inv := by decide +kernel
theorem poweringOn_inv : (inDev .poweringOn).Inv := by decide +kernel

theorem witness_InstanceParametersFixed : smallest.Legal ∧ largest.Legal ∧
    ¬{ smallest with n := 1 }.Legal ∧ ¬{ smallest with n := 4 }.Legal ∧ ¬{ largest with n := 33 }.Legal ∧
    ¬{ largest with ta := 2 ^ 32 }.Legal ∧ ¬{ smallest with maxRate := 0 }.Legal ∧
    ¬{ largest with maxRate := 2 ^ 24 }.Legal ∧
    (∃ t, step State.reset = .next t) ∧ State.reset.cfg.Legal :=
  ⟨by decide, by decide, by decide, by decide, by decide, by decide, by decide, by decide, ⟨_, rfl⟩, by decide⟩

theorem witness_DerivedConstantsOfOffsets : smallest.Legal ∧ (2 < smallest.n) ∧ t3.n = 3 ∧
    Config.variantBB.n = 11 ∧ (Config.variantI2C 10000).n = 21 ∧ largest.n = 31 := by decide

theorem witness_NamedVariantsAreLegal : (1 ≤ 1 ∧ 1 ≤ 2 ^ 24 - 1) ∧ 2 ^ 24 - 1 ≤ 2 ^ 24 - 1 := by decide

theorem witness_BlockResetValues : ∃ t, t = State.resetOf t3 := ⟨_, rfl⟩

theorem witness_BlockResetOfRunningBlock :
    (turning .blockReset rechecking3).cfg = t3 ∧
    (turning .blockReset rechecking3).schedule = .blockReset :: [] ∧
    ∃ t, step (turning .blockReset rechecking3) = .next t :=
  ⟨rfl, rfl, ⟨_, rfl⟩⟩

theorem witness_RegisterReadsAnswerContents :
    (accessing (registerRead 0x04#6) State.reset).schedule = .host :: [] ∧
    (accessing (registerRead 0x2C#6) State.reset).hostQueue =
      { wr := false, off := 0x2C#6, size := 2#2, wdata := 0#32 } :: [] ∧
    (accessing (registerRead 0x04#6) State.reset).readRegister 0x04#6 = some 0#32 ∧
    (accessing (registerRead 0x2C#6) State.reset).readRegister 0x2C#6 = some 2000#32 ∧
    State.reset.readRegister 0x00#6 = none ∧ State.reset.readRegister 0x2D#6 = none ∧
    State.reset.readRegister 0x30#6 = none ∧ State.reset.readRegister 0x3F#6 = none := by decide

theorem witness_AccessFaultsExactly :
    (accessing (registerRead 0x01#6) State.reset).schedule = .host :: [] ∧
    (accessing (registerRead 0x01#6) State.reset).hostQueue = registerRead 0x01#6 :: [] ∧
    faultOf (step (accessing { registerRead 0x04#6 with size := 3#2 } State.reset)) = some .accessFault ∧
    faultOf (step (accessing (registerRead 0x2C#6) State.reset)) = none ∧
    faultOf (step (accessing (commandWrite 0#32) State.reset)) = none := by decide

theorem witness_StatusWordFields : { State.reset with window := List.replicate 31 0#24 }.len ≤ 31 ∧
    { State.reset with window := List.replicate 31 0#24 }.statusWord = 0x1F00#32 := by decide

theorem witness_OutputRegistersHoldExactSums : largest.Legal ∧
    (List.replicate 31 0x800000#24 : List Sample).length = largest.n ∧ smallest.Legal ∧
    (List.replicate 3 0x7FFFFF#24 : List Sample).length = smallest.n := by decide

theorem witness_OutputValuesAreMeanAndSlope : (tracking3.Inv ∧ tracking3.mode ≠ .filling) ∧
    (filling3.Inv ∧ filling3.mode = .filling) :=
  ⟨⟨tracking3_inv, by decide⟩, filling3_inv, by decide⟩

theorem witness_DecodeEncodeAgree : (Instr.start 0xFFFFFF#24).format = .cmd ∧
    (Instr.tick true 0#24).format ≠ .cmd ∧ decode 0x04FFFFFF#32 = .ok (.start 0xFFFFFF#24) := by decide

theorem witness_WordsSelectCommands : decode 0x05000000#32 = .ok .stop := by decide

theorem witness_IllegalWordsOnlyReport : decode 0xFF000000#32 = .error .reservedOpcode ∧
    decode 0x06000000#32 = .error .reservedOpcode ∧ decode 0x05000001#32 = .error .nonzeroImm := by decide

theorem witness_ByteLanesCarryWord : 3 < 4 ∧ (lanesOf 0x05000001#32)[3]? = some 0x05#8 ∧
    ofLanes 0x01#8 0x00#8 0x00#8 0x05#8 = 0x05000001#32 := by decide

theorem witness_RawCodesDenoteIntegers : sext24 0x7FFFFF#24 = 8388607 ∧ sext24 0x800000#24 = -8388608 := by
  decide

theorem witness_NotationStandsForWords : (0xFFFFFF ≤ 0xFFFFFF ∧ 0 ≤ 0xFFFFFF) ∧
    ((1 / 2 : ℚ) * 1000 = (500 : Nat)) ∧ ((16777216 / 1000 : ℚ) * 1000 = (16777216 : Nat)) :=
  ⟨by decide, by norm_num, by norm_num⟩

theorem witness_CommandWriteExecutesItsWord :
    (accessing (commandWrite 0x02000000#32) (inDev .poweringOn)).schedule = .host :: [] ∧
    (accessing (commandWrite 0x02000000#32) (inDev .poweringOn)).hostQueue = commandWrite 0x02000000#32 :: [] ∧
    (commandWrite 0x02000000#32).wr = true ∧ (commandWrite 0x02000000#32).size = 2#2 ∧
    ({ commandWrite 0#32 with off := 0x04#6 }.off ≠ 0x00#6) ∧ (inDev .poweringOn).dev = .poweringOn ∧
    (inDev .configured).dev ≠ .poweringOn ∧ decode 0x02000000#32 = .ok .powerOn ∧
    decode 0x02000001#32 = .error .nonzeroImm := by decide

theorem witness_EventTurnsRunEvents :
    (turning (.timer true 5#24) tracking3).schedule = .timer true 5#24 :: [] ∧
    (turning (.poller true) tracking3).schedule = .poller true :: [] ∧
    (turning .host tracking3).schedule = .host :: [] ∧ (turning .host tracking3).hostQueue = [] ∧
    tracking3.schedule = [] := by decide

/-- A block is in each lifecycle state: the hypotheses on `DEV` of ConfigureResult, PowerOnResult,
PollResult, PowerOffResult, StopResult, StepsNotEnabledChangeNothing and LifecycleTableHolds. -/
theorem witness_lifecycle_states (d : Dev) : (inDev d).dev = d := rfl

theorem witness_StartResult : (inDev .ready).dev = .ready ∧ (0#24 : MilliHz).toNat = 0 ∧
    (inDev .ready).cfg.maxRate < (2001#24 : MilliHz).toNat ∧ 0 < (1#24 : MilliHz).toNat ∧
    (2000#24 : MilliHz).toNat ≤ (inDev .ready).cfg.maxRate := by decide

theorem witness_TickResult : State.reset.armed = false ∧ tracking3.armed = true ∧
    (0x7FFFFE#24 : Sample) ≠ 0x7FFFFF#24 ∧ (0x800000#24 : Sample) ≠ 0x7FFFFF#24 := by decide

theorem witness_LifecycleTableHolds : (inDev .ready).LifecycleOk ∧ (inDev .ready).dev ≠ .periodic ∧
    tracking3.LifecycleOk ∧ tracking3.dev = .periodic ∧ (0#24 : Sample) ≠ 0x7FFFFF#24 := by decide

theorem witness_DevTransitionsExactly : ∃ t, exec .configure (inDev .uninitialized) = .next t := ⟨_, rfl⟩

theorem witness_FrequencyWrittenOnlyByStart :
    ∃ t, exec (.start 2000#24) (inDev .ready) = .next t ∧ t.freq ≠ (inDev .ready).freq :=
  ⟨_, rfl, by decide⟩

theorem witness_FailureCodesChangeResultOnly : (inDev .ready).signals.reply = .idle ∧
    ∃ t, exec (.start 2001#24) (inDev .ready) = .next t ∧ t.signals.reply = .okAccess ∧ t.result ≠ .ok :=
  ⟨rfl, _, rfl, by decide, by decide⟩

theorem witness_ResultWrittenOnlyByCompletion :
    (∃ t, exec .stop (inDev .ready) = .next t ∧ t.result ≠ (inDev .ready).result) ∧
    ∃ t, exec (.poll true) { inDev .poweringOn with result := .noop } = .next t ∧ t.result ≠ .noop :=
  ⟨⟨_, rfl, by decide⟩, ⟨_, rfl, by decide⟩⟩

theorem witness_NoTickAfterStopOrPowerOff : tracking3.LifecycleOk ∧ tracking3.dev ≠ .poweringOn ∧
    (∃ t, exec .stop tracking3 = .next t) ∧ ∃ t, exec .powerOff tracking3 = .next t :=
  ⟨by decide, by decide, ⟨_, rfl⟩, ⟨_, rfl⟩⟩

theorem witness_SourceSignals :
    (∃ t, step (turning (.timer true 0x7FFFFF#24) tracking3) = .next t ∧ t.signals.srcRd = true) ∧
    ∃ t, step (accessing (commandWrite 0x01000000#32) State.reset) = .next t ∧ t.signals.srcCfg = true :=
  ⟨⟨_, rfl, rfl⟩, ⟨_, rfl, rfl⟩⟩

theorem witness_WinAppendResult : (win3 [1, 2] .grow 0).len < (win3 [1, 2] .grow 0).cfg.n ∧
    (win3 [1, 2, 3] .grow 0).window = 1#24 :: [2#24, 3#24] ∧
    (win3 [1, 2, 3] .grow 0).len = (win3 [1, 2, 3] .grow 0).cfg.n := by decide

theorem witness_WinReplaceLastResult : (win3 [] .none 0).len = 0 ∧ (win3 [1] .none 0).window = [] ++ [1#24] := by
  decide

theorem witness_WinPopLastUndoResult : (win3 [1] .none 0).undo.kind = .none ∧
    ((win3 [1] .grow 0).window = [] ++ [1#24] ∧ (win3 [1] .grow 0).undo.kind = .grow) ∧
    (win3 [1, 2, 3] .slide 9).window = [1#24, 2#24] ++ [3#24] ∧ (win3 [1, 2, 3] .slide 9).undo.kind = .slide := by
  decide

theorem witness_WindowBufferProperties : (tracking3.WindowOk ∧ 0 < tracking3.cfg.n ∧
      ∃ t, exec (.winAppend 5#24) tracking3 = .next t) ∧
    ((win3 [] .none 0).window = [] ∧ [4#24, 5#24, 6#24].length = (win3 [] .none 0).cfg.n) ∧
    (win3 [1, 2, 3] .none 0).len = (win3 [1, 2, 3] .none 0).cfg.n ∧
    (win3 [1, 2] .none 0).len ≤ (win3 [1, 2] .none 0).cfg.n :=
  ⟨⟨by decide, by decide, _, rfl⟩, by decide, by decide, by decide⟩

theorem witness_RegressIsLeastSquaresFit : t3.Legal ∧ (win3 [1, 2] .none 0).len ≤ 2 ∧
    (3 ≤ { inDev .ready with window := samples [1, 2, 3] }.len ∧
      { inDev .ready with window := samples [1, 2, 3] }.len < (inDev .ready).cfg.n) ∧
    (win3 [1, 2, 4] .none 0).len = t3.n := by decide

theorem witness_RegressClosedForms : (win3 [1, 2, 4] .none 0).cfg.Legal ∧
    (win3 [1, 2, 4] .none 0).len = (win3 [1, 2, 4] .none 0).cfg.n := by decide

theorem witness_ThresholdsCompareExactly : ∃ t, exec .regress (win3 [1, 2, 4] .none 0) = .next t ∧
    decide (t.signals.regress = some { a := 3 / 2, b := 7 / 3, e := 2 / 9 }) = true :=
  exists_of_answers test_regress_t3

theorem witness_RegressProperties : (win3 [-3, 0, 3] .none 0).cfg.Legal ∧
    (win3 [-3, 0, 3] .none 0).len = t3.n ∧
    (∀ i, i < 3 → sampleAt (win3 [-3, 0, 3] .none 0).window i = 3 * offsetX t3 i) ∧
    (∀ i, i < 3 → sampleAt (win3 [5, 5, 5] .none 0).window i = 5) ∧
    (∀ i, i < 3 → sampleAt (win3 [2, 5, 8] .none 0).window i = sampleAt (win3 [-3, 0, 3] .none 0).window i + 5) := by
  decide

theorem witness_IntermediateWidths : largest.Legal ∧
    (List.replicate 31 0x800000#24 : List Sample).length = largest.n ∧ (2 ^ 32 - 1 < 2 ^ 32 ∧ 30 < largest.n) := by
  decide

theorem witness_UpdateOutputsResult : tracking3.len = tracking3.cfg.n := by decide

theorem witness_FillStepResult : (running t3 .filling [1] 0).mode = .filling ∧ t3.Legal ∧
    (running t3 .filling [1] 0).len + 1 < t3.n ∧ filling3.mode = .filling ∧ filling3.len + 1 = filling3.cfg.n := by
  decide

/-- A slide into `[0, 0, 90000]` is suspect (its residual is 20000), one into `[2, 3, 4]` is not. -/
theorem witness_TrackStepResult : tracking3.mode = .tracking ∧ tracking3.cfg.Legal ∧
    tracking3.len = tracking3.cfg.n ∧ tracking3.window = 1#24 :: 2#24 :: [3#24] ∧
    ¬(t3.tr * denE t3 < residualSum t3 [2#24, 3#24, 4#24]) ∧
    (running t3 .tracking [0, 0, 0] 0).window = 0#24 :: 0#24 :: [0#24] ∧
    t3.recheckEn = true ∧ t3.tr * denE t3 < residualSum t3 [0#24, 0#24, 90000#24] := by decide

theorem witness_RecheckStepResult : rechecking3.mode = .rechecking ∧ rechecking3.cfg.Legal ∧
    rechecking3.len = rechecking3.cfg.n ∧ rechecking3.window = 1#24 :: ([2#24] ++ [3#24]) ∧
    residualSum t3 ([2#24] ++ [3#24, 4#24]) < t3.ta * denE t3 ∧
    t3.ta * denE t3 ≤ residualSum t3 ([2#24] ++ [3#24, 90000#24]) := by decide

theorem witness_AcceptedTickCompletes : tracking3.Inv ∧ tracking3.armed = true ∧ (0x7FFFFE#24 : Sample) ≠ sentinel :=
  ⟨tracking3_inv, rfl, by decide⟩

theorem witness_InternalOperationsFrame : (Instr.regress.format = .internal ∧ Instr.filterReset.format = .internal) ∧
    (∃ t, exec .filterReset tracking3 = .next t) ∧ ∃ t, exec .regress (win3 [1, 2] .none 0) = .next t :=
  ⟨by decide, ⟨_, rfl⟩, ⟨_, rfl⟩⟩

theorem witness_RecheckingLastsOneAcceptedSample : rechecking3.Inv ∧ rechecking3.armed = true ∧
    rechecking3.mode = .rechecking ∧ (0x800000#24 : Sample) ≠ sentinel :=
  ⟨rechecking3_inv, rfl, rfl, by decide⟩

theorem witness_FilterChangesOnlyByAcceptedSampleOrReset :
    (∃ t, step (turning (.timer true 5#24) (running t3 .filling [] 0)) = .next t ∧
      ¬SameFilter (turning (.timer true 5#24) (running t3 .filling [] 0)) t) ∧
    (∃ t, step (turning .blockReset tracking3) = .next t ∧ ¬SameFilter (turning .blockReset tracking3) t) ∧
    ∃ t, step (accessing (commandWrite 0x040001F4#32) { tracking3 with dev := .ready, armed := false }) = .next t ∧
      ¬SameFilter tracking3 t :=
  ⟨⟨_, rfl, by decide⟩, ⟨_, rfl, by decide⟩, ⟨_, rfl, by decide⟩⟩

theorem witness_ResetMeetsInvariant : smallest.Legal ∧ largest.Legal := by decide

theorem witness_StepKeepsInvariant : tracking3.Inv ∧ ∃ t, step (turning .host tracking3) = .next t :=
  ⟨tracking3_inv, _, rfl⟩

theorem witness_NoSequenceFaultsInternally : tracking3.Inv ∧ (inDev .poweringOn).Inv :=
  ⟨tracking3_inv, poweringOn_inv⟩

/-- A hanging block: a STOP is held while polls find the SampleSource not ready. -/
def hanging : State := { inDev .poweringOn with
  hostQueue := [commandWrite 0x05000000#32], schedule := [.poller false, .host, .timer true 5#24] }

theorem witness_PowerOnHangs : hanging.Inv ∧ hanging.dev = .poweringOn ∧
    (∀ u ∈ hanging.schedule, u ≠ .poller true ∧ u ≠ .blockReset) ∧
    (∃ t, runSteps 2 hanging = .next t ∧ true = true) ∧
    hanging.hostQueue = commandWrite 0x05000000#32 :: [] ∧ (commandWrite 0x05000000#32).wr = true :=
  ⟨by decide +kernel, rfl, by decide, exists_of_answers (f := fun _ => true) (by decide), rfl, rfl⟩

/-- A block armed with an empty window, and three ticks to come. -/
def startingUp : State :=
  { running t3 .filling [] 0 with schedule := [.timer true 1#24, .timer true 2#24, .timer true 3#24] }

theorem witness_FirstWindowIsPublished : startingUp.Inv ∧ startingUp.armed = true ∧ startingUp.window = [] ∧
    [1#24, 2#24, 3#24].length = startingUp.cfg.n ∧ sentinel ∉ [1#24, 2#24, 3#24] ∧
    startingUp.schedule = [1#24, 2#24, 3#24].map (fun v => .timer true v) ++ [] :=
  ⟨by decide +kernel, by decide, by decide, by decide, by decide, by decide⟩

theorem witness_HiddenStateIsNotRead : rechecking3.Inv ∧
    (rechecking3.mode = .rechecking → (1#24 : Sample) = rechecking3.backup) ∧
    ∃ t, step (turning .host rechecking3) = .next t :=
  ⟨rechecking3_inv, fun _ => rfl, _, rfl⟩

end Sys2Proof.Tests
end

section
/-! SUPPORT. No operation changes the instantiation parameters (00_scope.md R5). -/

namespace Sys2Proof.Machine

variable {s t : State}

@[simp] theorem configureEffect_cfg (s : State) : (configureEffect s).cfg = s.cfg := by
  rcases configureEffect_cases s with ⟨-, h⟩ | ⟨-, h⟩ <;> simp [h]

@[simp] theorem powerOnEffect_cfg (s : State) : (powerOnEffect s).cfg = s.cfg := by
  rcases powerOnEffect_cases s with ⟨-, h⟩ | ⟨-, h⟩ <;> simp [h]

@[simp] theorem powerOffEffect_cfg (s : State) : (powerOffEffect s).cfg = s.cfg := by
  rcases powerOffEffect_cases s with ⟨-, h⟩ | ⟨-, h⟩ <;> simp [h]

@[simp] theorem startEffect_cfg (f : MilliHz) (s : State) : (startEffect f s).cfg = s.cfg := by
  rcases startEffect_cases f s with ⟨-, h⟩ | ⟨-, -, h⟩ | ⟨-, -, h⟩ | ⟨-, -, h⟩ <;> simp [h]

@[simp] theorem stopEffect_cfg (s : State) : (stopEffect s).cfg = s.cfg := by
  rcases stopEffect_cases s with ⟨-, h⟩ | ⟨-, h⟩ <;> simp [h]

theorem onCommandPort_cfg {k : State → State} (hk : (k s).cfg = s.cfg)
    (h : onCommandPort s k = .next t) : t.cfg = s.cfg := by
  rcases onCommandPort_next h with ⟨-, rfl⟩ | ⟨-, rfl⟩
  · rfl
  · exact hk

theorem execTick_cfg {ready : Bool} {raw : Sample} (h : execTick ready raw s = .next t) :
    t.cfg = s.cfg := by
  rcases execTick_cases ready raw s with ⟨-, h'⟩ | ⟨-, -, -, h'⟩ | ⟨-, -, -, h'⟩ <;> rw [h'] at h
  · cases h; rfl
  · cases h; rfl
  · exact (filterStep_outside h).1

theorem execPoll_cfg {ready : Bool} (h : execPoll ready s = .next t) : t.cfg = s.cfg := by
  rcases execPoll_cases ready s with ⟨-, -, h'⟩ | ⟨-, h'⟩ <;> rw [h'] at h <;> cases h <;> rfl

/-- Every operation that answers a next state keeps the parameters. -/
theorem exec_cfg {i : Instr} (h : exec i s = .next t) : t.cfg = s.cfg := by
  cases i with
  | configure => exact onCommandPort_cfg (configureEffect_cfg s) h
  | powerOn => exact onCommandPort_cfg (powerOnEffect_cfg s) h
  | powerOff => exact onCommandPort_cfg (powerOffEffect_cfg s) h
  | start f => exact onCommandPort_cfg (startEffect_cfg f s) h
  | stop => exact onCommandPort_cfg (stopEffect_cfg s) h
  | tick ready raw => exact execTick_cfg h
  | poll ready => exact execPoll_cfg h
  | winAppend v => cases h; exact winAppend_cfg v s
  | winReplaceLast v => exact (winReplaceLast_outside h).1
  | winPopLastUndo => exact (winPopLastUndo_outside h).1
  | regress =>
    obtain ⟨r, -, h⟩ := withRegress_next h
    cases h; rfl
  | filterReset => cases h; rfl
  | filterStep v => exact (filterStep_outside h).1
  | updateOutputs r => cases h; exact (updateOutputs_outside r s).1

theorem execWord_cfg {w : Word} (h : execWord w s = .next t) : t.cfg = s.cfg := by
  rcases execWord_cases w s with ⟨i, -, -, h'⟩ | ⟨e, -, h'⟩ <;> rw [h'] at h
  · exact exec_cfg h
  · cases h; rfl

/-- Every step that answers a next state keeps the parameters, whoever's turn it is. -/
theorem step_cfg (h : step s = .next t) : t.cfg = s.cfg := by
  rcases step_next h with ⟨-, rfl⟩ | ⟨ts, -, -, rfl⟩ | ⟨ts, a, rest, v, -, -, -, -, rfl⟩ |
    ⟨ts, a, rest, -, -, -, -, rfl⟩ | ⟨ts, a, rest, -, -, -, -, -, h⟩ | ⟨ts, ready, raw, -, h⟩ |
    ⟨ts, ready, -, h⟩ | ⟨ts, -, rfl⟩
  · rfl
  · rfl
  · rfl
  · rfl
  · exact (execWord_cfg h).trans rfl
  · exact (exec_cfg h).trans rfl
  · exact (exec_cfg h).trans rfl
  · rfl

end Sys2Proof.Machine
end

section
/-! SUPPORT. VARIANT_I2C is legal (00_scope.md R8), the derived constants are exact (R7), and the
configuration registers carry the parameters and constants unclipped (10_state.md R32). -/

namespace Sys2Proof.Machine

variable {p : Params}

theorem variantI2C_legal {sps : Nat} (hlow : 1 ≤ sps) (hhigh : sps ≤ 2 ^ 24 - 1) :
    (Config.variantI2C sps).Legal := by
  refine ⟨?_, ?_, ?_, ?_, ?_, ?_, hlow, hhigh⟩ <;> simp [Config.variantI2C]

/-- The product under `SXX` has no remainder: three consecutive numbers hold a multiple of 3, and both
neighbours of an odd number are even. -/
theorem twelve_dvd_of_odd {n : Nat} (h : n % 2 = 1) : 12 ∣ (n - 1) * n * (n + 1) := by
  have h3 : 3 ∣ (n - 1) * n * (n + 1) := by
    have hf : (n + 1).descFactorial 3 = (n - 1) * n * (n + 1) := by
      simp [Nat.descFactorial_succ, mul_assoc]
    rw [← hf]
    exact Dvd.dvd.trans (by decide) (Nat.factorial_dvd_descFactorial (n + 1) 3)
  have h4 : 4 ∣ (n - 1) * n * (n + 1) := by
    rw [mul_right_comm]
    exact Dvd.dvd.mul_right (mul_dvd_mul (a := 2) (c := 2) (by omega) (by omega)) n
  exact Nat.Coprime.mul_dvd_of_dvd_of_dvd (m := 3) (n := 4) (by decide) h3 h4

theorem twelve_mul_sxx (h : p.Legal) : 12 * sxx p = (p.n - 1) * p.n * (p.n + 1) :=
  Nat.mul_div_cancel' (twelve_dvd_of_odd h.1)

theorem two_mul_halfWidth_add_one (h : p.Legal) : 2 * halfWidth p + 1 = p.n := by
  have hodd := h.1
  unfold halfWidth
  omega

/-- Every offset of a legal window lies in `-H .. H`. -/
theorem offsetX_bounds (h : p.Legal) {i : Nat} (hi : i < p.n) :
    -(halfWidth p : Int) ≤ offsetX p i ∧ offsetX p i ≤ halfWidth p := by
  have hN := two_mul_halfWidth_add_one h
  unfold offsetX
  omega

theorem den_pos (h : p.Legal) : 0 < den p :=
  Nat.mul_pos (by have := h.2.1; omega) (sxx_pos h)

/-- The derived constant fits the 32-bit register that carries it. -/
theorem sxx_lt (h : p.Legal) : sxx p < 2 ^ 32 := by
  obtain ⟨-, -, hn, -⟩ := h
  have h12 : (p.n - 1) * p.n * (p.n + 1) ≤ 30 * 31 * 32 := by gcongr <;> omega
  unfold sxx
  omega

/-- The fields of the `CFG` word. -/
theorem cfgWord_fields (p : Params) :
    (cfgWord p).extractLsb' 0 5 = BitVec.ofNat 5 p.n ∧ (cfgWord p).extractLsb' 5 3 = 0#3 ∧
    (cfgWord p).extractLsb' 8 1 = BitVec.ofBool p.recheckEn ∧ (cfgWord p).extractLsb' 9 23 = 0#23 := by
  refine ⟨?_, ?_, ?_, ?_⟩
  · exact BitVec.extractLsb'_append_eq_right
  · rw [cfgWord, BitVec.extractLsb'_append_eq_of_le (by decide), BitVec.extractLsb'_append_eq_right]
  · rw [cfgWord, BitVec.extractLsb'_append_eq_of_le (by decide),
      BitVec.extractLsb'_append_eq_of_le (by decide), BitVec.extractLsb'_append_eq_right]
    rfl
  · rw [cfgWord, BitVec.extractLsb'_append_eq_of_le (by decide),
      BitVec.extractLsb'_append_eq_of_le (by decide), BitVec.extractLsb'_append_eq_left]

end Sys2Proof.Machine
end

section
/-! SUPPORT. A step is the turn that stands next in the schedule (20_memory.md R45). -/

namespace Sys2Proof.Machine

theorem step_of_schedule_nil {s : State} (h : s.schedule = []) : step s = .next s.quiet := by
  simp [step, stepBlock, h]

theorem step_of_schedule_cons {s : State} {u : Turn} {ts : List Turn} (h : s.schedule = u :: ts) :
    step s = takeTurn u (s.quiet.setSchedule ts) := by
  simp [step, stepBlock, h]

theorem hostTurn_of_no_access {s : State} (h : s.hostQueue = []) : hostTurn s = .next s := by
  simp [hostTurn, h]

end Sys2Proof.Machine
end

section
/-! The statements of 00_scope.md: instances, derived constants, named variants, and the agents' turns. -/

open Sys2Proof
open Sys2Proof.Machine

/-- Settles O1: `instantiate` tests exactly R5's table, `step_cfg` keeps the parameters, and R5's ranges
fit the registers' fields. -/
theorem instanceParametersFixed : Obligations.InstanceParametersFixed := by
  refine ⟨fun p => ⟨fun h => if_pos h, fun h => if_neg h⟩, fun s t h => step_cfg h, fun s h => ?_⟩
  have hsxx := sxx_lt h
  have h12 := twelve_mul_sxx h
  obtain ⟨hn, hr1, hre, hr2⟩ := cfgWord_fields s.cfg
  obtain ⟨-, -, hN, hts, htr, hta, -, hmax⟩ := h
  refine ⟨⟨_, rfl, ?_, hr1, hre, hr2⟩, ⟨_, rfl, ?_⟩, ⟨_, rfl, ?_⟩, ⟨_, rfl, ?_⟩, ⟨_, rfl, ?_⟩,
    ⟨_, rfl, ?_⟩⟩
  · rw [hn, BitVec.toNat_ofNat, Nat.mod_eq_of_lt (by omega)]
  · rw [BitVec.toNat_ofNat, Nat.mod_eq_of_lt hsxx, h12]
  · exact Nat.mod_eq_of_lt hts
  · exact Nat.mod_eq_of_lt htr
  · exact Nat.mod_eq_of_lt hta
  · have hrate : s.cfg.maxRate % 2 ^ 24 = s.cfg.maxRate := Nat.mod_eq_of_lt (by omega)
    rw [BitVec.toNat_append, BitVec.toNat_ofNat, BitVec.toNat_ofNat, hrate]
    simp

/-- Settles O2: from the exact division under `SXX` and the two sums over the offsets, which make `DEN`
the determinant `N * SXX - SX^2` with `SX = 0`. -/
theorem derivedConstantsOfOffsets : Obligations.DerivedConstantsOfOffsets := by
  refine ⟨fun p h => ?_, fun p => ?_⟩
  · have hsq : sumTo p.n (fun i => offsetX p i ^ 2) = sxx p := by
      simpa only [pow_two] using sum_offsetX_sq h
    refine ⟨two_mul_halfWidth_add_one h, fun i hi => ⟨rfl, offsetX_bounds h hi⟩, sum_offsetX h, hsq,
      twelve_mul_sxx h, ?_, rfl, den_pos h, rfl⟩
    rw [hsq, sum_offsetX h]
    simp [den]
  · refine ⟨?_, ?_, ?_, ?_⟩ <;> intro hn <;> simp [halfWidth, den, denE, sxx, hn]

/-- Settles O3: R8's values lie in R5's table; only the rate cap of VARIANT_I2C is open. -/
theorem namedVariantsAreLegal : Obligations.NamedVariantsAreLegal :=
  ⟨rfl, by decide, fun _ => ⟨rfl, variantI2C_legal⟩⟩

/-- Settles O20: a step takes the turn that stands next, and a turn with nothing to do changes nothing. -/
theorem eventTurnsRunEvents : Obligations.EventTurnsRunEvents := by
  refine fun s ts => ⟨fun ready raw h => ?_, fun ready h => ?_, fun h hq => ?_, fun h => ?_⟩
  · exact step_of_schedule_cons h
  · exact step_of_schedule_cons h
  · rw [step_of_schedule_cons h]
    exact hostTurn_of_no_access hq
  · exact step_of_schedule_nil h
end

section
/-! SUPPORT. The next state of FILTER_STEP in each mode, from a window whose length agrees with `MODE`
(42_drift_filter.md R74 to R78). -/

namespace Sys2Proof.Machine

/-- `s` with the full window `w` and undo record `u`, in mode `m` with backup `b`, and with the outputs
published for `w`: what FILTER_STEP leaves once the window is primed. -/
def State.holding (w : List Sample) (u : Undo) (m : Mode) (b : Sample) (s : State) : State :=
  (((s.setWindow w u).publishing w).setMode m).setBackup b

/-- The outlier-suspect rule for the full window `w`, in R68's integer form (R76). -/
abbrev Suspicious (p : Params) (w : List Sample) : Prop :=
  p.recheckEn = true ∧ p.tr * denE p < residualSum p w

/-- The recheck's acceptance of the full window `w`, in R68's integer form (R78). -/
abbrev Acceptable (p : Params) (w : List Sample) : Prop := residualSum p w < p.ta * denE p

variable {s : State} {v : Sample}

theorem suspectRule_fit (hp : s.cfg.Legal) (hl : s.len = s.cfg.n) :
    suspectRule s.cfg (fit s.cfg.n (offsetX s.cfg) s.w).e = true ↔ Suspicious s.cfg s.window := by
  have he : eNum s.cfg s.w = residualSum s.cfg s.window := eNum_congr (w_eq_sampleAt hl)
  rw [suspectRule, Bool.and_eq_true, decide_eq_true_iff, lt_residual_iff hp, he]

theorem acceptRule_fit (hp : s.cfg.Legal) (hl : s.len = s.cfg.n) :
    acceptRule s.cfg (fit s.cfg.n (offsetX s.cfg) s.w).e = true ↔ Acceptable s.cfg s.window := by
  have he : eNum s.cfg s.w = residualSum s.cfg s.window := eNum_congr (w_eq_sampleAt hl)
  rw [acceptRule, decide_eq_true_iff, residual_lt_iff hp, he]

theorem winAppend_grow (h : s.len < s.cfg.n) :
    winAppend v s = s.setWindow (s.window ++ [v]) { kind := .grow, evicted := 0#24 } :=
  if_pos h

/-- The Tracking step, from the full window that its append left (R76). -/
theorem trackStep_of_append {s1 : State} (h : winAppend v s = s1) (hp : s1.cfg.Legal)
    (hl : s1.len = s1.cfg.n) :
    trackStep v s = .next (if Suspicious s1.cfg s1.window then suspect (s1.publishing s1.window)
      else s1.publishing s1.window) := by
  simp only [trackStep, h]
  rw [withRegress_full hp hl, updateOutputs_full hp hl]
  exact congrArg _ (if_congr (suspectRule_fit hp hl) rfl rfl)

/-- The Rechecking step, from the full window that its append left and the one that the rollback leaves
(R78). -/
theorem recheckStep_of_append {s1 s2 : State} (h : winAppend v s = s1) (hp : s1.cfg.Legal)
    (hl : s1.len = s1.cfg.n) (h2 : rollback v s1 = .next s2) (hp2 : s2.cfg.Legal)
    (hl2 : s2.len = s2.cfg.n) :
    recheckStep v s = .next (if Acceptable s1.cfg s1.window
      then (s1.publishing s1.window).setMode .tracking
      else (s2.publishing s2.window).setMode .tracking) := by
  simp only [recheckStep, h, h2, andThen_of_next]
  rw [withRegress_full hp hl, withRegress_full hp2 hl2, updateOutputs_full hp hl,
    updateOutputs_full hp2 hl2, if_congr (acceptRule_fit hp hl) rfl rfl]
  split <;> rfl

/-- Before the sample that primes the window, a Filling step only appends (R75). -/
theorem filterStep_growing (hm : s.mode = .filling) (hl : s.len + 1 < s.cfg.n) :
    filterStep v s =
      .next (s.setWindow (s.window ++ [v]) { kind := .grow, evicted := 0#24 }) := by
  have hlen : (winAppend v s).len = s.len + 1 := winAppend_len_lt (by omega)
  simp only [filterStep, hm, fillStep, winAppend_cfg]
  rw [if_neg (by omega), winAppend_grow (by omega)]

/-- The sample that primes the window publishes its outputs and begins Tracking (R75). -/
theorem filterStep_priming (hp : s.cfg.Legal) (hm : s.mode = .filling) (hl : s.len + 1 = s.cfg.n) :
    filterStep v s = .next
      (s.holding (s.window ++ [v]) { kind := .grow, evicted := 0#24 } .tracking s.backup) := by
  have hlen : (winAppend v s).len = (winAppend v s).cfg.n := by
    rw [winAppend_len_lt (by omega), hl, winAppend_cfg]
  have hp' : (winAppend v s).cfg.Legal := by rwa [winAppend_cfg]
  simp only [filterStep, hm, fillStep]
  rw [if_pos hlen, withRegress_full hp' hlen, updateOutputs_full hp' hlen, winAppend_grow (by omega)]
  rfl

/-- A Tracking step slides, publishes, and on a suspect window begins Rechecking with the sample that the
next slide evicts as backup (R76, R77). -/
theorem filterStep_tracking {w0 w1 : Sample} {l : List Sample} (hp : s.cfg.Legal)
    (hm : s.mode = .tracking) (hl : s.len = s.cfg.n) (hw : s.window = w0 :: w1 :: l) :
    filterStep v s = .next (
      if Suspicious s.cfg (w1 :: (l ++ [v])) then
        s.holding (w1 :: (l ++ [v])) { kind := .slide, evicted := w0 } .rechecking w1
      else s.holding (w1 :: (l ++ [v])) { kind := .slide, evicted := w0 } .tracking s.backup) := by
  have hlen : (w1 :: (l ++ [v])).length = s.cfg.n := by
    rw [← hl, State.len, hw]
    simp
  simp only [filterStep, hm]
  rw [trackStep_of_append (winAppend_slide hw hl) hp hlen, ← hm]
  rfl

/-- A Rechecking step slides and publishes, with the suspect sample replaced by the backup unless the recheck
accepts; Tracking goes on (R78). -/
theorem filterStep_rechecking {w0 x : Sample} {m : List Sample} (hp : s.cfg.Legal)
    (hm : s.mode = .rechecking) (hl : s.len = s.cfg.n) (hw : s.window = w0 :: (m ++ [x])) :
    filterStep v s = .next (
      if Acceptable s.cfg (m ++ [x, v]) then
        s.holding (m ++ [x, v]) { kind := .slide, evicted := w0 } .tracking s.backup
      else s.holding (m ++ [s.backup, v]) { kind := .slide, evicted := w0 } .tracking s.backup) := by
  have hlen (y : Sample) : (m ++ [y, v]).length = s.cfg.n := by
    rw [← hl, State.len, hw]
    simp
  have happ : winAppend v s = s.setWindow (m ++ [x, v]) { kind := .slide, evicted := w0 } := by
    rw [winAppend_slide hw hl, List.append_assoc]
    rfl
  have hroll := rollback_after_slide (v := v) hw hl
  rw [happ] at hroll
  simp only [filterStep, hm]
  rw [recheckStep_of_append happ hp (hlen x) hroll hp (hlen s.backup)]
  rfl

end Sys2Proof.Machine
end

section
/-! SUPPORT. Everything an operation can do, said once: an internal operation stays inside the filter, and
the commands and events make the transitions of 43_scheduler.md R80 to R86. -/

namespace Sys2Proof.Machine

variable {s t : State}

/-- An internal operation changes nothing outside the filter, but that REGRESS hands over its result. -/
theorem exec_internal {i : Instr} (hi : i.format = .internal) (h : exec i s = .next t) :
    (i ≠ .regress ∧ SameOutsideFilter s t) ∨ (i = .regress ∧ ∃ r, t = s.deliver r) := by
  cases i with
  | configure | powerOn | powerOff | start f | stop | tick ready raw | poll ready => cases hi
  | winAppend v => cases h; exact .inl ⟨nofun, winAppend_outside v s⟩
  | winReplaceLast v => exact .inl ⟨nofun, winReplaceLast_outside h⟩
  | winPopLastUndo => exact .inl ⟨nofun, winPopLastUndo_outside h⟩
  | regress =>
    obtain ⟨r, -, h⟩ := withRegress_next h
    cases h
    exact .inr ⟨rfl, r, rfl⟩
  | filterReset => cases h; exact .inl ⟨nofun, filterReset_outside s⟩
  | filterStep v => exact .inl ⟨nofun, filterStep_outside h⟩
  | updateOutputs r => cases h; exact .inl ⟨nofun, updateOutputs_outside r s⟩

/-- The transitions of the commands and events from `s` (R80 to R86). -/
inductive Transition (s : State) : Instr → State → Prop
  /-- A held command, a poll that is not enabled or finds nothing ready, a tick that is not delivered. -/
  | nothing (i : Instr) : Transition s i s
  /-- A command completes with a code other than `OK`. -/
  | report (i : Instr) (c : ResultCode) : i.format = .cmd → c ≠ .ok → Transition s i (s.complete c)
  | configure : s.dev = .uninitialized →
      Transition s .configure (((s.setDev .configured).pulseCfg).complete .ok)
  | powerOn : s.dev = .configured ∨ s.dev = .poweredOff →
      Transition s .powerOn (s.setDev .poweringOn)
  | powerOff : s.dev = .ready ∨ s.dev = .periodic →
      Transition s .powerOff (((s.setArmed false).setDev .poweredOff).complete .ok)
  | start (f : MilliHz) : s.dev = .ready → frequencyInRange s.cfg f = true →
      Transition s (.start f)
        ((((s.filterReset.setFreq f).setDev .periodic).setArmed true).complete .ok)
  | stop : s.dev = .periodic →
      Transition s .stop (((s.setArmed false).setDev .ready).complete .ok)
  | pollReady : s.dev = .poweringOn →
      Transition s (.poll true) ((s.setDev .ready).complete .ok)
  /-- A tick reads the sentinel, and drops it. -/
  | tickDropped : s.armed = true → Transition s (.tick true sentinel) s.pulseRd
  /-- A tick reads a sample, and the filter accepts it. -/
  | tickAccepted (raw : Sample) (t : State) : s.armed = true → raw ≠ sentinel →
      filterStep raw s.pulseRd = .next t → Transition s (.tick true raw) t

theorem onCommandPort_transition {i : Instr} {k : State → State} (h : onCommandPort s k = .next t)
    (hk : Transition s i (k s)) : Transition s i t := by
  rcases onCommandPort_next h with ⟨-, rfl⟩ | ⟨-, rfl⟩
  · exact .nothing i
  · exact hk

theorem configureEffect_transition (s : State) : Transition s .configure (configureEffect s) := by
  rcases configureEffect_cases s with ⟨hd, h⟩ | ⟨-, h⟩ <;> rw [h]
  · exact .configure hd
  · exact .report _ _ rfl nofun

theorem powerOnEffect_transition (s : State) : Transition s .powerOn (powerOnEffect s) := by
  rcases powerOnEffect_cases s with ⟨hd, h⟩ | ⟨-, h⟩ <;> rw [h]
  · exact .powerOn hd
  · exact .report _ _ rfl nofun

theorem powerOffEffect_transition (s : State) : Transition s .powerOff (powerOffEffect s) := by
  rcases powerOffEffect_cases s with ⟨hd, h⟩ | ⟨-, h⟩ <;> rw [h]
  · exact .powerOff hd
  · exact .report _ _ rfl nofun

theorem startEffect_transition (f : MilliHz) (s : State) :
    Transition s (.start f) (startEffect f s) := by
  rcases startEffect_cases f s with ⟨-, h⟩ | ⟨-, -, h⟩ | ⟨-, -, h⟩ | ⟨hd, hf, h⟩ <;> rw [h]
  · exact .report _ _ rfl nofun
  · exact .report _ _ rfl nofun
  · exact .report _ _ rfl nofun
  · exact .start f hd hf

theorem stopEffect_transition (s : State) : Transition s .stop (stopEffect s) := by
  rcases stopEffect_cases s with ⟨hd, h⟩ | ⟨-, h⟩ <;> rw [h]
  · exact .stop hd
  · exact .report _ _ rfl nofun

theorem execTick_transition {ready : Bool} {raw : Sample} (h : execTick ready raw s = .next t) :
    Transition s (.tick ready raw) t := by
  rcases execTick_cases ready raw s with ⟨-, h'⟩ | ⟨ha, rfl, rfl, h'⟩ | ⟨ha, rfl, hr, h'⟩ <;>
    rw [h'] at h
  · cases h; exact .nothing _
  · cases h; exact .tickDropped ha
  · exact .tickAccepted raw t ha hr h

theorem execPoll_transition {ready : Bool} (h : execPoll ready s = .next t) :
    Transition s (.poll ready) t := by
  rcases execPoll_cases ready s with ⟨hd, rfl, h'⟩ | ⟨-, h'⟩ <;> rw [h'] at h <;> cases h
  · exact .pollReady hd
  · exact .nothing _

/-- A command or an event that answers a next state made one of the transitions. -/
theorem exec_transition {i : Instr} (hi : i.format ≠ .internal) (h : exec i s = .next t) :
    Transition s i t := by
  cases i with
  | configure => exact onCommandPort_transition h (configureEffect_transition s)
  | powerOn => exact onCommandPort_transition h (powerOnEffect_transition s)
  | powerOff => exact onCommandPort_transition h (powerOffEffect_transition s)
  | start f => exact onCommandPort_transition h (startEffect_transition f s)
  | stop => exact onCommandPort_transition h (stopEffect_transition s)
  | tick ready raw => exact execTick_transition h
  | poll ready => exact execPoll_transition h
  | winAppend v | winReplaceLast v | winPopLastUndo | regress | filterReset | filterStep v
  | updateOutputs r => exact absurd rfl hi

/-- No internal operation writes `DEV`, `FREQ` or `RESULT`. -/
theorem exec_internal_lifecycle {i : Instr} (hi : i.format = .internal) (h : exec i s = .next t) :
    t.dev = s.dev ∧ t.freq = s.freq ∧ t.result = s.result := by
  rcases exec_internal hi h with ⟨-, -, hdev, -, hfreq, hresult, -⟩ | ⟨-, r, rfl⟩
  · exact ⟨hdev, hfreq, hresult⟩
  · exact ⟨rfl, rfl, rfl⟩

end Sys2Proof.Machine
end

section
/-! SUPPORT. What a whole step does: the outputs fall, the turn and at most one host access are taken, and
then there is nothing, an answer, an ILLEGAL word, one transition or a block reset (20_memory.md R37, R38, R45). -/

namespace Sys2Proof.Machine

variable {s t : State}

/-- `s` with the outputs fallen, and with these turns and host accesses left. -/
def State.taking (ts : List Turn) (q : List HostAccess) (s : State) : State :=
  (s.quiet.setSchedule ts).setHostQueue q

theorem execWord_transition {w : Word} (h : execWord w s = .next t) :
    t = s.complete .illegal ∨ ∃ i, Transition s i t := by
  rcases execWord_cases w s with ⟨i, -, hi, h'⟩ | ⟨e, -, h'⟩ <;> rw [h'] at h
  · have hf : i.format ≠ .internal := by
      rcases hi with rfl | rfl | rfl | ⟨f, rfl⟩ | rfl <;> exact nofun
    exact .inr ⟨i, exec_transition hf h⟩
  · cases h; exact .inl rfl

/-- Everything a step that answers a next state can have done, after the turn is taken. -/
theorem step_transition (h : step s = .next t) :
    ∃ ts q, t = s.taking ts q ∨ (∃ v, t = (s.taking ts q).answer v) ∨
      t = (s.taking ts q).complete .illegal ∨ (∃ i, Transition (s.taking ts q) i t) ∨
      t = (s.taking ts q).blockReset := by
  rcases step_next h with ⟨-, rfl⟩ | ⟨ts, -, -, rfl⟩ | ⟨ts, a, rest, v, -, -, -, -, rfl⟩ |
    ⟨ts, a, rest, -, -, -, -, rfl⟩ | ⟨ts, a, rest, -, -, -, -, -, h⟩ | ⟨ts, ready, raw, -, h⟩ |
    ⟨ts, ready, -, h⟩ | ⟨ts, -, rfl⟩
  · exact ⟨s.schedule, s.hostQueue, .inl rfl⟩
  · exact ⟨ts, s.hostQueue, .inl rfl⟩
  · exact ⟨ts, rest, .inr (.inl ⟨v, rfl⟩)⟩
  · exact ⟨ts, s.hostQueue, .inl rfl⟩
  · rcases execWord_transition h with h | h
    · exact ⟨ts, rest, .inr (.inr (.inl h))⟩
    · exact ⟨ts, rest, .inr (.inr (.inr (.inl h)))⟩
  · exact ⟨ts, s.hostQueue, .inr (.inr (.inr (.inl ⟨.tick ready raw, exec_transition nofun h⟩)))⟩
  · exact ⟨ts, s.hostQueue, .inr (.inr (.inr (.inl ⟨.poll ready, exec_transition nofun h⟩)))⟩
  · exact ⟨ts, s.hostQueue, .inr (.inr (.inr (.inr rfl)))⟩

end Sys2Proof.Machine
end

section
/-! SUPPORT. The invariant: the lifecycle's clauses (R17, R18, R99) and the filter's (R20 to R25, R77,
R79), and that every transition keeps both. -/

namespace Sys2Proof.Machine

variable {s t : State}

/-- The invariant's clauses on the filter's own state. -/
abbrev State.FilterOk (s : State) : Prop := s.WindowOk ∧ s.RecheckOk ∧ s.NoSentinel ∧ s.OutputsOk

theorem inv_iff : s.Inv ↔ s.cfg.Legal ∧ s.LifecycleOk ∧ s.FilterOk := Iff.rfl

theorem pulseRd_filterOk : s.pulseRd.FilterOk ↔ s.FilterOk := Iff.rfl

theorem lifecycleOk_congr (h : SameOutsideFilter s t) : t.LifecycleOk ↔ s.LifecycleOk := by
  obtain ⟨hcfg, hdev, harmed, hfreq, -⟩ := h
  rw [State.LifecycleOk, State.LifecycleOk, hcfg, hdev, harmed, hfreq]

theorem State.LifecycleOk.disarmed (h : s.LifecycleOk) (hd : s.dev ≠ .periodic) : s.armed = false :=
  Bool.eq_false_iff.mpr (mt h.1.mp hd)

theorem lifecycleOk_of_disarmed (ha : s.armed = false) (hd : s.dev ≠ .periodic)
    (hf : s.freq.toNat ≤ s.cfg.maxRate) : s.LifecycleOk := by
  simp [State.LifecycleOk, ha, hd, hf]

theorem frequencyInRange_iff {p : Params} {f : MilliHz} :
    frequencyInRange p f = true ↔ 0 < f.toNat ∧ f.toNat ≤ p.maxRate := by
  rw [frequencyInRange, Bool.and_eq_true, decide_eq_true_iff, decide_eq_true_iff, Nat.pos_iff_ne_zero]
  rfl

theorem zero_ne_sentinel : (0#24 : Sample) ≠ sentinel := by decide

theorem filterReset_filterOk (hp : s.cfg.Legal) : s.filterReset.FilterOk := by
  have hn : 0 < s.cfg.n := by have := hp.2.1; omega
  refine ⟨?_, ?_, ?_, ?_⟩
  · simp [State.WindowOk, hn]
  · simp [State.RecheckOk]
  · simp [State.NoSentinel, sentinel]
  · simp [State.OutputsOk]

/-- Block reset of a legal block meets the invariant (R104). -/
theorem blockReset_inv (hp : s.cfg.Legal) : s.blockReset.Inv :=
  inv_iff.mpr ⟨hp, lifecycleOk_of_disarmed rfl nofun (Nat.zero_le _), filterReset_filterOk hp⟩

/-- A sample that is not the sentinel keeps the filter's clauses while the window grows. -/
theorem growing_filterOk {v : Sample} (h : s.FilterOk) (hm : s.mode = .filling)
    (hl : s.len + 1 < s.cfg.n) (hv : v ≠ sentinel) :
    (s.setWindow (s.window ++ [v]) { kind := .grow, evicted := 0#24 }).FilterOk := by
  obtain ⟨-, -, ⟨hwin, hbackup, -⟩, hzero, -⟩ := h
  unfold State.len at hl
  refine ⟨?_, ?_, ?_, ?_⟩
  · simp [State.WindowOk, hm]
    omega
  · simp [State.RecheckOk, hm]
  · exact ⟨by simpa using ⟨hwin, hv.symm⟩, hbackup, zero_ne_sentinel⟩
  · simpa [State.OutputsOk, hm] using hzero hm

/-- A full window without the sentinel, its outputs published, meets the filter's clauses. -/
theorem holding_filterOk {w : List Sample} {u : Undo} {m : Mode} {b : Sample} (hp : s.cfg.Legal)
    (hl : w.length = s.cfg.n) (hm : m ≠ .filling)
    (hr : m = .rechecking → s.cfg.recheckEn = true ∧ w.head? = some b)
    (hw : sentinel ∉ w) (hb : b ≠ sentinel) (hu : u.evicted ≠ sentinel) :
    (s.holding w u m b).FilterOk := by
  have hn : 0 < s.cfg.n := by have := hp.2.1; omega
  refine ⟨⟨hl.le, ?_, fun _ => hn.trans_eq hl.symm, fun _ => hl⟩,
    ⟨fun hen hrec => ?_, fun hrec => (hr hrec).2⟩, ⟨hw, hb, hu⟩, fun hfill => absurd hfill hm, fun _ => ⟨rfl, rfl, rfl⟩⟩
  · exact iff_of_false hl.not_lt hm
  · exact Bool.false_ne_true (hen.symm.trans (hr hrec).1)

/-- Outside Filling the window is full. -/
theorem full_of_primed (hw : s.WindowOk) (hm : s.mode ≠ .filling) : s.len = s.cfg.n := by
  obtain ⟨hle, hmode, -⟩ := hw
  exact le_antisymm hle (not_lt.mp (mt hmode.mp hm))

/-- The four phases in which a FILTER_STEP can find a block whose window agrees with its mode. -/
theorem filter_phases (hp : s.cfg.Legal) (hw : s.WindowOk) :
    (s.mode = .filling ∧ s.len + 1 < s.cfg.n) ∨ (s.mode = .filling ∧ s.len + 1 = s.cfg.n) ∨
    (s.mode = .tracking ∧ s.len = s.cfg.n ∧ ∃ w0 w1 l, s.window = w0 :: w1 :: l) ∨
    (s.mode = .rechecking ∧ s.len = s.cfg.n ∧ ∃ w0 m x, s.window = w0 :: (m ++ [x])) := by
  obtain ⟨-, hmode, -⟩ := id hw
  have hn := hp.2.1
  by_cases hfill : s.mode = .filling
  · have := hmode.mpr hfill
    rcases Nat.lt_or_ge (s.len + 1) s.cfg.n with h | h
    · exact .inl ⟨hfill, h⟩
    · exact .inr (.inl ⟨hfill, by omega⟩)
  have hfull := full_of_primed hw hfill
  obtain ⟨w0, w1, l, hwin⟩ : ∃ w0 w1 l, s.window = w0 :: w1 :: l := by
    unfold State.len at hfull
    match hw : s.window with
    | [] | [_] => simp [hw] at hfull; omega
    | w0 :: w1 :: l => exact ⟨w0, w1, l, rfl⟩
  cases hm : s.mode with
  | filling => exact absurd hm hfill
  | tracking => exact .inr (.inr (.inl ⟨rfl, hfull, w0, w1, l, hwin⟩))
  | rechecking =>
    refine .inr (.inr (.inr ⟨rfl, hfull, w0, (w1 :: l).dropLast, (w1 :: l).getLast nofun, ?_⟩))
    rw [hwin, List.dropLast_append_getLast]

/-- An accepted sample keeps the filter's clauses (R75 to R79). -/
theorem filterStep_filterOk {v : Sample} (hp : s.cfg.Legal) (h : s.FilterOk) (hv : v ≠ sentinel)
    (hstep : filterStep v s = .next t) : t.FilterOk := by
  obtain ⟨hwin, -, ⟨hws, hb, -⟩, -⟩ := id h
  rcases filter_phases hp hwin with ⟨hm, hl⟩ | ⟨hm, hl⟩ | ⟨hm, hl, w0, w1, l, hw⟩ |
    ⟨hm, hl, w0, m, x, hw⟩
  · rw [filterStep_growing hm hl] at hstep
    cases hstep
    exact growing_filterOk h hm hl hv
  · rw [filterStep_priming hp hm hl] at hstep
    cases hstep
    rw [State.len] at hl
    refine holding_filterOk hp ?_ nofun nofun ?_ hb zero_ne_sentinel
    · simpa using hl
    · simpa using ⟨hws, hv.symm⟩
  · rw [filterStep_tracking hp hm hl hw] at hstep
    cases hstep
    rw [State.len, hw] at hl
    simp only [hw, List.mem_cons, not_or] at hws
    obtain ⟨hw0, hw1, hl'⟩ := hws
    have hnew : sentinel ∉ w1 :: (l ++ [v]) := by simp [hw1, hl', hv.symm]
    split
    · rename_i hsus
      exact holding_filterOk hp (by simpa using hl) nofun (fun _ => ⟨hsus.1, rfl⟩) hnew
        (Ne.symm hw1) (Ne.symm hw0)
    · exact holding_filterOk hp (by simpa using hl) nofun nofun hnew hb (Ne.symm hw0)
  · rw [filterStep_rechecking hp hm hl hw] at hstep
    cases hstep
    rw [State.len, hw] at hl
    simp only [hw, List.mem_cons, List.mem_append, List.not_mem_nil, or_false, not_or] at hws
    obtain ⟨hw0, hm', hx⟩ := hws
    split
    · exact holding_filterOk hp (by simpa using hl) nofun nofun (by simp [hm', hx, hv.symm]) hb
        (Ne.symm hw0)
    · exact holding_filterOk hp (by simpa using hl) nofun nofun (by simp [hm', hb.symm, hv.symm])
        hb (Ne.symm hw0)

/-- The invariant does not speak of the outputs driven, the turns or the host accesses. -/
theorem taking_inv (ts : List Turn) (q : List HostAccess) : (s.taking ts q).Inv ↔ s.Inv := Iff.rfl

/-- Every transition keeps the invariant. -/
theorem transition_inv {i : Instr} (h : Transition s i t) (hs : s.Inv) : t.Inv := by
  obtain ⟨hp, hlife, hfilter⟩ := inv_iff.mp hs
  obtain ⟨-, -, hmax⟩ := id hlife
  cases h with
  | nothing => exact hs
  | report => exact hs
  | configure hd =>
    exact ⟨hp, lifecycleOk_of_disarmed (hlife.disarmed (by simp [hd])) nofun hmax, hfilter⟩
  | powerOn hd =>
    have ha : s.armed = false := hlife.disarmed (by rcases hd with hd | hd <;> simp [hd])
    exact ⟨hp, lifecycleOk_of_disarmed ha nofun hmax, hfilter⟩
  | powerOff => exact ⟨hp, lifecycleOk_of_disarmed rfl nofun hmax, hfilter⟩
  | start f _ hf =>
    obtain ⟨hpos, hle⟩ := frequencyInRange_iff.mp hf
    exact ⟨hp, ⟨iff_of_true rfl rfl, fun _ => hpos, hle⟩, filterReset_filterOk hp⟩
  | stop => exact ⟨hp, lifecycleOk_of_disarmed rfl nofun hmax, hfilter⟩
  | pollReady hd =>
    exact ⟨hp, lifecycleOk_of_disarmed (hlife.disarmed (by simp [hd])) nofun hmax, hfilter⟩
  | tickDropped => exact hs
  | tickAccepted raw _ _ hraw hstep =>
    have hout := filterStep_outside hstep
    have hp' : t.cfg.Legal := by rwa [hout.1]
    exact inv_iff.mpr ⟨hp', (lifecycleOk_congr hout).mpr hlife,
      filterStep_filterOk (s := s.pulseRd) hp (pulseRd_filterOk.mpr hfilter) hraw hstep⟩

/-- Every step keeps the invariant. -/
theorem step_inv (h : step s = .next t) (hs : s.Inv) : t.Inv := by
  obtain ⟨ts, q, hcases⟩ := step_transition h
  have hu : (s.taking ts q).Inv := (taking_inv ts q).mpr hs
  rcases hcases with rfl | ⟨v, rfl⟩ | rfl | ⟨i, htr⟩ | rfl
  · exact hu
  · exact hu
  · exact hu
  · exact transition_inv htr hu
  · exact blockReset_inv hu.1

end Sys2Proof.Machine
end

section
/-! SUPPORT. `BACKUP` outside Rechecking, `UNDO.evicted` and the draw counter are hidden: states that differ
only there answer outcomes that differ only there (10_state.md R24, R33). -/

namespace Sys2Proof.Machine

/-- `s` with other values in its hidden elements. -/
def State.withHidden (b e : Sample) (d : Nat) (s : State) : State :=
  { s with backup := b, undo := { s.undo with evicted := e }, freeDraws := d }

/-- Where `o` is a next state, so is `o'`, and the two differ in hidden elements only; `BACKUP` is not hidden
while Rechecking. -/
def Agrees (o o' : Result) : Prop :=
  ∀ t, o = .next t → ∃ b e d, o' = .next (t.withHidden b e d) ∧ (t.mode = .rechecking → b = t.backup)

theorem agrees_fault (r : Fault) (o : Result) : Agrees (.fault r) o := by
  rintro t ⟨⟩

/-- The same decision on both sides. Each side may decide `c` from its own state. -/
theorem agrees_ite {c : Prop} {dec dec' : Decidable c} {o p o' p' : Result} (h : c → Agrees o o')
    (h' : ¬c → Agrees p p') :
    Agrees (@ite _ c dec o p) (@ite _ c dec' o' p') := by
  by_cases hc : c
  · rw [if_pos hc, if_pos hc]
    exact h hc
  · rw [if_neg hc, if_neg hc]
    exact h' hc

theorem agrees_next_ite {c : Prop} {dec dec' : Decidable c} {u v u' v' : State}
    (h : Agrees (.next u) (.next u')) (h' : Agrees (.next v) (.next v')) :
    Agrees (.next (@ite _ c dec u v)) (.next (@ite _ c dec' u' v')) := by
  rw [apply_ite Host.Outcome.next, apply_ite Host.Outcome.next]
  exact agrees_ite (fun _ => h) (fun _ => h')

variable {s : State} {b e : Sample} {d : Nat}

theorem agrees_next (hb : s.mode = .rechecking → b = s.backup) :
    Agrees (.next s) (.next (s.withHidden b e d)) := by
  rintro t ⟨⟩
  exact ⟨b, e, d, rfl, hb⟩

/-- FILTER_STEP reads `BACKUP` while Rechecking only, and the undo record only after it has written it. -/
theorem filterStep_agrees (v : Sample) (hp : s.cfg.Legal) (hw : s.WindowOk)
    (hb : s.mode = .rechecking → b = s.backup) :
    Agrees (filterStep v s) (filterStep v (s.withHidden b e d)) := by
  rcases filter_phases hp hw with ⟨hm, hl⟩ | ⟨hm, hl⟩ | ⟨hm, hl, w0, w1, l, hw⟩ |
    ⟨hm, hl, w0, m, x, hw⟩
  · rw [filterStep_growing hm hl, filterStep_growing (s := s.withHidden b e d) hm hl]
    exact agrees_next (b := b) (e := 0#24) (d := d) hb
  · rw [filterStep_priming hp hm hl, filterStep_priming (s := s.withHidden b e d) hp hm hl]
    exact agrees_next (b := b) (e := 0#24) (d := d) nofun
  · rw [filterStep_tracking hp hm hl hw, filterStep_tracking (s := s.withHidden b e d) hp hm hl hw]
    exact agrees_next_ite (agrees_next (b := w1) (e := w0) (d := d) fun _ => rfl)
      (agrees_next (b := b) (e := w0) (d := d) nofun)
  · obtain rfl := hb hm
    rw [filterStep_rechecking hp hm hl hw,
      filterStep_rechecking (s := s.withHidden s.backup e d) hp hm hl hw]
    exact agrees_next_ite (agrees_next (b := s.backup) (e := w0) (d := d) nofun)
      (agrees_next (b := s.backup) (e := w0) (d := d) nofun)

theorem onCommandPort_agrees {k : State → State} (hb : s.mode = .rechecking → b = s.backup)
    (hk : Agrees (.next (k s)) (.next (k (s.withHidden b e d)))) :
    Agrees (onCommandPort s k) (onCommandPort (s.withHidden b e d) k) :=
  agrees_ite (fun _ => agrees_next hb) (fun _ => hk)

/-- No readable register shows a hidden element (R33). -/
theorem readRegister_withHidden (off : Offset) :
    (s.withHidden b e d).readRegister off = s.readRegister off := rfl

section
variable (hb : s.mode = .rechecking → b = s.backup)
include hb

theorem execConfigure_agrees : Agrees (execConfigure s) (execConfigure (s.withHidden b e d)) :=
  onCommandPort_agrees hb (agrees_next_ite
    (agrees_next (s := ((s.setDev .configured).pulseCfg).complete .ok) hb)
    (agrees_next (s := s.complete .noop) hb))

theorem execPowerOn_agrees : Agrees (execPowerOn s) (execPowerOn (s.withHidden b e d)) :=
  onCommandPort_agrees hb (agrees_next_ite (agrees_next (s := s.setDev .poweringOn) hb)
    (agrees_next (s := s.complete .noop) hb))

theorem execPowerOff_agrees : Agrees (execPowerOff s) (execPowerOff (s.withHidden b e d)) :=
  onCommandPort_agrees hb (agrees_next_ite
    (agrees_next (s := ((s.setArmed false).setDev .poweredOff).complete .ok) hb)
    (agrees_next (s := s.complete .noop) hb))

/-- A successful START writes `BACKUP` and the undo record afresh (R72). -/
theorem execStart_agrees (f : MilliHz) : Agrees (execStart f s) (execStart f (s.withHidden b e d)) :=
  onCommandPort_agrees hb (agrees_next_ite (agrees_next (s := s.complete .alreadyRunning) hb)
    (agrees_next_ite (agrees_next (s := s.complete .notReady) hb)
      (agrees_next_ite (agrees_next (s := s.complete .badFrequency) hb)
        (agrees_next (b := 0#24) (e := 0#24) (d := d)
          (s := (((s.filterReset.setFreq f).setDev .periodic).setArmed true).complete .ok) nofun))))

theorem execStop_agrees : Agrees (execStop s) (execStop (s.withHidden b e d)) :=
  onCommandPort_agrees hb (agrees_next_ite
    (agrees_next (s := ((s.setArmed false).setDev .ready).complete .ok) hb)
    (agrees_next (s := s.complete .noop) hb))

theorem execTick_agrees (ready : Bool) (raw : Sample) (hp : s.cfg.Legal) (hw : s.WindowOk) :
    Agrees (execTick ready raw s) (execTick ready raw (s.withHidden b e d)) :=
  agrees_ite (fun _ => agrees_next hb) fun _ =>
    agrees_ite (fun _ => agrees_next hb) fun _ =>
      agrees_ite (fun _ => agrees_next (s := s.pulseRd) hb) fun _ =>
        filterStep_agrees (s := s.pulseRd) raw hp hw hb

theorem execPoll_agrees (ready : Bool) :
    Agrees (execPoll ready s) (execPoll ready (s.withHidden b e d)) :=
  agrees_ite (fun _ => agrees_next (s := (s.setDev .ready).complete .ok) hb)
    (fun _ => agrees_next hb)

theorem execWord_agrees (w : Word) : Agrees (execWord w s) (execWord w (s.withHidden b e d)) := by
  unfold execWord
  cases h : decode w with
  | error err => exact agrees_next (s := s.complete .illegal) hb
  | ok i =>
    rcases decode_ok h with ⟨-, -, rfl⟩ | ⟨-, -, rfl⟩ | ⟨-, -, rfl⟩ | ⟨-, rfl⟩ | ⟨-, -, rfl⟩
    · exact execConfigure_agrees hb
    · exact execPowerOn_agrees hb
    · exact execPowerOff_agrees hb
    · exact execStart_agrees hb _
    · exact execStop_agrees hb

theorem regRead_agrees (a : HostAccess) : Agrees (regRead a s) (regRead a (s.withHidden b e d)) := by
  unfold regRead
  rw [readRegister_withHidden]
  refine agrees_ite (fun _ => ?_) (fun _ => agrees_fault _ _)
  cases s.readRegister a.off with
  | none => exact agrees_fault _ _
  | some v => exact agrees_next (s := s.answer v) hb

theorem hostTurn_agrees : Agrees (hostTurn s) (hostTurn (s.withHidden b e d)) := by
  have hqueue : (s.withHidden b e d).hostQueue = s.hostQueue := rfl
  unfold hostTurn
  rw [hqueue]
  cases s.hostQueue with
  | nil => exact agrees_next hb
  | cons a rest =>
    exact agrees_ite (fun _ => regRead_agrees (s := s.setHostQueue rest) hb a) fun _ =>
      agrees_ite (fun _ => agrees_fault _ _) fun _ =>
        agrees_ite (fun _ => agrees_next hb) fun _ =>
          execWord_agrees (s := s.setHostQueue rest) hb a.wdata

theorem takeTurn_agrees (u : Turn) (hp : s.cfg.Legal) (hw : s.WindowOk) :
    Agrees (takeTurn u s) (takeTurn u (s.withHidden b e d)) := by
  cases u with
  | host => exact hostTurn_agrees hb
  | timer ready raw => exact execTick_agrees hb ready raw hp hw
  | poller ready => exact execPoll_agrees hb ready
  | blockReset => exact agrees_next (s := s.blockReset) (b := 0#24) (e := 0#24) (d := d) nofun

theorem step_agrees (hp : s.cfg.Legal) (hw : s.WindowOk) :
    Agrees (step s) (step (s.withHidden b e d)) := by
  cases hs : s.schedule with
  | nil =>
    rw [step_of_schedule_nil hs, step_of_schedule_nil (s := s.withHidden b e d) hs]
    exact agrees_next (s := s.quiet) hb
  | cons u ts =>
    rw [step_of_schedule_cons hs, step_of_schedule_cons (s := s.withHidden b e d) hs]
    exact takeTurn_agrees (s := s.quiet.setSchedule ts) hb u hp hw

end

end Sys2Proof.Machine
end

section
/-! SUPPORT. The exact sums of a full window fit the 32-bit output registers (10_state.md R27). -/

namespace Sys2Proof.Machine

variable {p : Params} {l : List Sample}

theorem abs_sampleAt_le (l : List Sample) (i : Nat) : |sampleAt l i| ≤ 2 ^ 23 := by
  have h1 := BitVec.le_toInt (l.getD i 0#24)
  have h2 := BitVec.toInt_lt (x := l.getD i 0#24)
  exact abs_le.mpr ⟨h1, h2.le⟩

theorem abs_windowSum_le (hl : l.length = p.n) : |windowSum l| ≤ p.n * 2 ^ 23 := by
  rw [← sumTo_sampleAt, ← hl]
  exact abs_sumTo_le _ _ _ fun i _ => abs_sampleAt_le l i

/-- The offsets of an odd window lie evenly about 0: the sum of their absolute values, for each of the 15
legal lengths. -/
theorem offset_abs_sum_of_length : ∀ n : Nat, n < 32 → n % 2 = 1 →
    4 * sumTo n (fun i => |(i : Int) - ((n - 1) / 2 : Nat)|) = (n : Int) ^ 2 - 1 := by
  decide

theorem sum_abs_offsetX (h : p.Legal) : 4 * sumTo p.n (fun i => |offsetX p i|) = (p.n : Int) ^ 2 - 1 :=
  offset_abs_sum_of_length p.n (by omega) h.1

theorem abs_weightedSum_le (h : p.Legal) (l : List Sample) :
    4 * |weightedSum p l| ≤ ((p.n : Int) ^ 2 - 1) * 2 ^ 23 := by
  have hterms : |weightedSum p l| ≤ sumTo p.n (fun i => |offsetX p i|) * 2 ^ 23 := by
    rw [weightedSum, sumTo_eq_sum, sumTo_eq_sum, Finset.sum_mul]
    refine (Finset.abs_sum_le_sum_abs _ _).trans (Finset.sum_le_sum fun i _ => ?_)
    rw [abs_mul]
    exact mul_le_mul_of_nonneg_left (abs_sampleAt_le l i) (abs_nonneg _)
  calc 4 * |weightedSum p l| ≤ 4 * (sumTo p.n (fun i => |offsetX p i|) * 2 ^ 23) := by gcongr
    _ = ((p.n : Int) ^ 2 - 1) * 2 ^ 23 := by rw [← mul_assoc, sum_abs_offsetX h]

/-- A 32-bit register holds an integer below `2^31` exactly. -/
theorem toInt_ofInt_of_abs_lt {z : Int} (h : |z| < 2 ^ 31) : (BitVec.ofInt 32 z).toInt = z := by
  obtain ⟨hlow, hhigh⟩ := abs_lt.mp h
  exact BitVec.toInt_ofInt_eq_self (by decide) hlow.le hhigh

theorem windowSum_held (h : p.Legal) (hl : l.length = p.n) :
    (BitVec.ofInt 32 (windowSum l)).toInt = windowSum l := by
  have hb := abs_windowSum_le hl
  exact toInt_ofInt_of_abs_lt (by omega)

theorem weightedSum_held (h : p.Legal) (l : List Sample) :
    (BitVec.ofInt 32 (weightedSum p l)).toInt = weightedSum p l := by
  have hb := abs_weightedSum_le h l
  have hn : (p.n : Int) ^ 2 ≤ 31 ^ 2 := by
    have := h.2.2.1
    gcongr
    omega
  exact toInt_ofInt_of_abs_lt (by omega)

end Sys2Proof.Machine
end

section
/-! SUPPORT. The fields of the STATUS word (10_state.md R31), and the values that the outputs stand for (R26). -/

namespace Sys2Proof.Machine

variable {s : State}

/-- Each field stands right above the ones below it (R31). -/
theorem statusWord_fields (s : State) :
    s.statusWord.extractLsb' 0 3 = s.dev.code ∧ s.statusWord.extractLsb' 3 1 = flagBit s.armed ∧
    s.statusWord.extractLsb' 4 2 = s.mode.code ∧ s.statusWord.extractLsb' 6 1 = flagBit s.stable ∧
    s.statusWord.extractLsb' 7 1 = flagBit s.pending ∧
    s.statusWord.extractLsb' 8 5 = BitVec.ofNat 5 s.len ∧ s.statusWord.extractLsb' 13 19 = 0#19 := by
  unfold State.statusWord
  refine ⟨BitVec.extractLsb'_append_eq_right, ?_, ?_, ?_, ?_, ?_, ?_⟩
  all_goals
    simp (disch := decide) only [BitVec.extractLsb'_append_eq_of_le,
      BitVec.extractLsb'_append_eq_right, BitVec.extractLsb'_eq_self, Nat.reduceSub]

/-- STATUS shows no parameter, so it reads 0 after any block reset (R31, R34). -/
theorem resetOf_statusWord (p : Params) : (State.resetOf p).statusWord = 0#32 := by
  change State.reset.statusWord = 0#32
  decide

/-- The values of the outputs of a primed block (R26). -/
theorem output_values (hs : s.Inv) (hm : s.mode ≠ .filling) :
    s.meanValue = (windowSum s.window : ℚ) / (s.cfg.n : ℚ) ∧
    s.trendValue = (weightedSum s.cfg s.window : ℚ) / (sxx s.cfg : ℚ) := by
  obtain ⟨hp, -, hw, -, -, -, houtputs⟩ := hs
  obtain ⟨hmean, htrend, -⟩ := houtputs hm
  have hl : s.window.length = s.cfg.n := full_of_primed hw hm
  rw [State.meanValue, State.trendValue, hmean, htrend, windowSum_held hp hl, weightedSum_held hp]
  exact ⟨rfl, rfl⟩

theorem output_values_of_zero (hmean : s.meanNum = 0#32) (htrend : s.trendNum = 0#32) :
    s.meanValue = 0 ∧ s.trendValue = 0 := by
  simp [State.meanValue, State.trendValue, hmean, htrend]

/-- The slope that REGRESS answers on a full window is the weighted sum over `SXX` (R65). -/
theorem exec_regress_slope (hp : s.cfg.Legal) (hl : s.len = s.cfg.n) :
    ∃ t r, exec .regress s = .next t ∧ t.signals.regress = some r ∧
      r.a = (weightedSum s.cfg s.window : ℚ) / (sxx s.cfg : ℚ) := by
  have hw : sumTo s.cfg.n (fun i => offsetX s.cfg i * s.w i) = weightedSum s.cfg s.window :=
    sumTo_congr fun i hi => by rw [w_eq_sampleAt hl i hi]
  refine ⟨_, _, withRegress_full hp hl _, rfl, ?_⟩
  rw [fit_slope hp, hw]

end Sys2Proof.Machine
end

section
/-! The statements of 10_state.md: the invariant, hidden state, register views, and what changes `DEV`, `FREQ`
and `RESULT`. -/

open Sys2Proof
open Sys2Proof.Machine

/-- Settles O56: by what a step can do; each of these keeps the lifecycle's and the filter's clauses. -/
theorem stepKeepsInvariant : Obligations.StepKeepsInvariant :=
  fun _ _ hs h => step_inv h hs

/-- Settles O60: a state and the same with other hidden elements step to such a pair again. -/
theorem hiddenStateIsNotRead : Obligations.HiddenStateIsNotRead := by
  intro s t b e d hs hb hstep
  obtain ⟨hp, -, hw, -⟩ := hs
  obtain ⟨b', e', d', h, hb'⟩ := step_agrees (e := e) (d := d) hb hp hw t hstep
  exact ⟨_, h, ⟨rfl, rfl, rfl, rfl, rfl, rfl, rfl, rfl⟩, rfl, rfl, rfl, rfl, rfl, rfl, hb'⟩

/-- Settles O55: a reset state is a block reset of itself. -/
theorem resetMeetsInvariant : Obligations.ResetMeetsInvariant :=
  ⟨fun p hp => blockReset_inv (s := State.resetOf p) hp,
    blockReset_inv (s := State.reset) (by decide)⟩

/-- Settles O8: STATUS is its fields side by side. -/
theorem statusWordFields : Obligations.StatusWordFields := by
  refine ⟨fun s hl => ?_, rfl, rfl, fun p => congrArg some (resetOf_statusWord p)⟩
  obtain ⟨hdev, harmed, hmode, hstable, hpending, hlen, hzero⟩ := statusWord_fields s
  refine ⟨hdev, harmed, hmode, hstable, ?_, ?_, hzero⟩
  · rw [hpending, flagBit, State.pending]
    split <;> rename_i h <;> simp [h]
  · rw [hlen, BitVec.toNat_ofNat, Nat.mod_eq_of_lt (by omega)]

/-- Settles O9: from the bounds on the two sums. -/
theorem outputRegistersHoldExactSums : Obligations.OutputRegistersHoldExactSums :=
  fun _ l hp hl => ⟨abs_windowSum_le hl, abs_weightedSum_le hp l, windowSum_held hp hl,
    weightedSum_held hp l⟩

/-- Settles O10: the registers hold the window's exact sums, and the fit's slope is their quotient. -/
theorem outputValuesAreMeanAndSlope : Obligations.OutputValuesAreMeanAndSlope := by
  refine fun s hs => ⟨fun hm => ?_, fun hm => ?_, s.filterReset, rfl, output_values_of_zero rfl rfl⟩
  · obtain ⟨hmean, htrend⟩ := output_values hs hm
    obtain ⟨t, r, h, hr, hslope⟩ := exec_regress_slope hs.1 (full_of_primed hs.2.2.1 hm)
    exact ⟨hmean, htrend, t, r, h, hr, htrend.trans hslope.symm⟩
  · obtain ⟨-, -, -, -, -, hzero, -⟩ := hs
    obtain ⟨hmean, htrend, -⟩ := hzero hm
    exact output_values_of_zero hmean htrend

/-- Settles O30: by the transitions; no internal operation writes `DEV`. -/
theorem devTransitionsExactly : Obligations.DevTransitionsExactly := by
  intro i s t h
  by_cases hi : i.format = .internal
  · exact .inl (exec_internal_lifecycle hi h).1
  cases exec_transition hi h with
  | nothing | report | tickDropped => exact .inl rfl
  | configure hd => simp [hd]
  | powerOn hd => simp [hd]
  | powerOff hd => simp [hd]
  | start f hd => simp [hd]
  | stop hd => simp [hd]
  | pollReady hd => simp [hd]
  | tickAccepted raw _ _ _ hstep => exact .inl (filterStep_outside hstep).2.1

/-- Settles O31: only the successful START is a transition that writes `FREQ`. -/
theorem frequencyWrittenOnlyByStart : Obligations.FrequencyWrittenOnlyByStart := by
  intro i s t h hne
  by_cases hi : i.format = .internal
  · exact absurd (exec_internal_lifecycle hi h).2.1 hne
  cases exec_transition hi h with
  | nothing | report | configure | powerOn | powerOff | stop | pollReady | tickDropped =>
    exact absurd rfl hne
  | start f _ hf => exact ⟨f, rfl, rfl, rfl, rfl, frequencyInRange_iff.mp hf⟩
  | tickAccepted raw _ _ _ hstep =>
    obtain ⟨-, -, -, hfreq, -⟩ := filterStep_outside hstep
    exact absurd hfreq hne

/-- Settles O33: every transition that writes `RESULT` completes a command. -/
theorem resultWrittenOnlyByCompletion : Obligations.ResultWrittenOnlyByCompletion := by
  intro i s t h hne
  by_cases hi : i.format = .internal
  · exact absurd (exec_internal_lifecycle hi h).2.2 hne
  cases exec_transition hi h with
  | nothing | powerOn | tickDropped => exact absurd rfl hne
  | report _ _ hcmd _ => exact ⟨rfl, .inl hcmd⟩
  | configure | powerOff | start | stop => exact ⟨rfl, .inl rfl⟩
  | pollReady hd => exact ⟨rfl, .inr ⟨rfl, hd⟩⟩
  | tickAccepted raw _ _ _ hstep =>
    obtain ⟨-, -, -, -, hresult, -⟩ := filterStep_outside hstep
    exact absurd hresult hne

/-- Settles O52: by what an internal operation can do. -/
theorem internalOperationsFrame : Obligations.InternalOperationsFrame := by
  intro i s t hi h
  rcases exec_internal hi h with
    ⟨hne, hcfg, hdev, harmed, hfreq, hresult, hsignals, hqueue, hschedule⟩ | ⟨rfl, r, rfl⟩
  · exact ⟨hcfg, hdev, harmed, hfreq, hresult, hqueue, hschedule, fun _ => hsignals,
      fun hi => absurd hi hne⟩
  · exact ⟨rfl, rfl, rfl, rfl, rfl, rfl, rfl, fun hne => absurd rfl hne,
      fun _ => ⟨⟨rfl, rfl, rfl, rfl, rfl, rfl, rfl⟩, rfl, rfl⟩⟩

/-- Settles O11: the bundle is made of the registers' fields. -/
theorem outputBundleMatchesRegisters : Obligations.OutputBundleMatchesRegisters :=
  fun _ => ⟨rfl, rfl, rfl, rfl⟩

/-- Settles O29: the command port holds, and the poll finds nothing pending. -/
theorem stepsNotEnabledChangeNothing : Obligations.StepsNotEnabledChangeNothing := by
  refine ⟨fun s f hd => ?_, fun s ready hd => if_neg (fun h => hd h.1)⟩
  have held (k : State → State) : onCommandPort s k = .next s := if_pos hd
  exact ⟨held _, held _, held _, held _, held _⟩
end

section
/-! SUPPORT. The byte lanes of a word (20_memory.md R40), the readable offsets (R37), and what the host's turn
does with its oldest access (R38, R39). -/

namespace Sys2Proof

/-- The four lanes stand side by side, lane 0 lowest. -/
theorem ofLanes_lanes (w : Word) :
    ofLanes (w.extractLsb' 0 8) (w.extractLsb' 8 8) (w.extractLsb' 16 8) (w.extractLsb' 24 8) = w := by
  have h16 : w.extractLsb' 24 8 ++ w.extractLsb' 16 8 = w.extractLsb' 16 16 :=
    BitVec.extractLsb'_append_extractLsb'_eq_extractLsb' rfl
  have h8 : w.extractLsb' 16 16 ++ w.extractLsb' 8 8 = w.extractLsb' 8 24 :=
    BitVec.extractLsb'_append_extractLsb'_eq_extractLsb' rfl
  have h0 : w.extractLsb' 8 24 ++ w.extractLsb' 0 8 = w.extractLsb' 0 32 :=
    BitVec.extractLsb'_append_extractLsb'_eq_extractLsb' rfl
  rw [ofLanes, h16, h8, h0]
  exact BitVec.extractLsb'_eq_self

namespace Machine

variable {s : State} {a : HostAccess} {rest : List HostAccess} {ts : List Turn}

/-- Eleven offsets have a readable register: the aligned ones above `CMD` and below `0x30` (R37). -/
theorem readRegister_eq_none_iff (s : State) (off : Offset) :
    s.readRegister off = none ↔ off.toNat % 4 ≠ 0 ∨ 0x30 ≤ off.toNat ∨ off = 0x00#6 := by
  have hoffsets : s.readRegister off = none ↔ off ∉ [0x04#6, 0x08#6, 0x0C#6, 0x10#6, 0x14#6, 0x18#6,
      0x1C#6, 0x20#6, 0x24#6, 0x28#6, 0x2C#6] := by
    simp only [State.readRegister, ite_eq_iff, reduceCtorEq, and_false, false_or, and_true,
      List.mem_cons, List.not_mem_nil, or_false, not_or]
  rw [hoffsets]
  clear hoffsets
  decide +revert

/-- An offset is aligned when its two low bits are 0, that is, when it is a multiple of 4. -/
theorem aligned_iff (off : Offset) : off.extractLsb' 0 2 = 0#2 ↔ off.toNat % 4 = 0 := by
  simp [← BitVec.toNat_inj]

theorem wordSized_iff : a.wordSized = true ↔ a.size = 2#2 := decide_eq_true_iff

theorem regRead_of_register {v : Word} (hz : a.size = 2#2) (hv : s.readRegister a.off = some v) :
    regRead a s = .next (s.answer v) := by
  simp [regRead, wordSized_iff.mpr hz, hv]

theorem regRead_fault_iff :
    regRead a s = .fault .accessFault ↔ a.size ≠ 2#2 ∨ s.readRegister a.off = none := by
  unfold regRead
  cases s.readRegister a.off <;> simp [wordSized_iff]

theorem execWord_of_ok {w : Word} {i : Instr} (h : decode w = .ok i) : execWord w s = exec i s := by
  simp [execWord, h]

theorem execWord_of_error {w : Word} {e : DecodeError} (h : decode w = .error e) :
    execWord w s = .next (s.complete .illegal) := by
  simp [execWord, h, execIllegal]

theorem onCommandPort_answers (s : State) (k : State → State) : ∃ t, onCommandPort s k = .next t := by
  unfold onCommandPort
  split
  · exact ⟨_, rfl⟩
  · exact ⟨_, rfl⟩

/-- No command word faults. -/
theorem execWord_answers (w : Word) (s : State) : ∃ t, execWord w s = .next t := by
  rcases execWord_cases w s with ⟨i, -, rfl | rfl | rfl | ⟨f, rfl⟩ | rfl, h⟩ | ⟨e, -, h⟩ <;> rw [h]
  · exact onCommandPort_answers s _
  · exact onCommandPort_answers s _
  · exact onCommandPort_answers s _
  · exact onCommandPort_answers s _
  · exact onCommandPort_answers s _
  · exact ⟨_, rfl⟩

section
variable (hs : s.schedule = .host :: ts) (hq : s.hostQueue = a :: rest)
include hs hq

theorem step_of_read (hw : a.wr = false) : step s = regRead a (s.taking ts rest) := by
  simp [step_of_schedule_cons hs, takeTurn, hostTurn, hq, hw, State.taking]

theorem step_of_write_refused (hw : a.wr = true) (h : a.size ≠ 2#2 ∨ a.off ≠ 0x00#6) :
    step s = .fault .accessFault := by
  have hbad : a.wordSized = false ∨ a.off ≠ 0x00#6 := by simpa [← wordSized_iff] using h
  simp [step_of_schedule_cons hs, takeTurn, hostTurn, hq, hw, hbad]

theorem step_of_write_held (hw : a.wr = true) (hz : a.size = 2#2) (ho : a.off = 0x00#6)
    (hd : s.dev = .poweringOn) : step s = .next (s.quiet.setSchedule ts) := by
  simp [step_of_schedule_cons hs, takeTurn, hostTurn, hq, hw, wordSized_iff.mpr hz, ho, hd]

theorem step_of_write_executed (hw : a.wr = true) (hz : a.size = 2#2) (ho : a.off = 0x00#6)
    (hd : s.dev ≠ .poweringOn) : step s = execWord a.wdata (s.taking ts rest) := by
  simp [step_of_schedule_cons hs, takeTurn, hostTurn, hq, hw, wordSized_iff.mpr hz, ho, hd, State.taking]

theorem step_fault_iff_of_read (hw : a.wr = false) : step s = .fault .accessFault ↔
    a.size ≠ 2#2 ∨ a.off.toNat % 4 ≠ 0 ∨ 0x30 ≤ a.off.toNat ∨ a.off = 0x00#6 := by
  rw [step_of_read hs hq hw, regRead_fault_iff, readRegister_eq_none_iff]

/-- A 32-bit write to `CMD` answers a next state, held or executed. -/
theorem step_fault_iff_of_write (hw : a.wr = true) :
    step s = .fault .accessFault ↔ a.size ≠ 2#2 ∨ a.off ≠ 0x00#6 := by
  refine ⟨fun hfault => ?_, step_of_write_refused hs hq hw⟩
  by_contra hgood
  simp only [not_or, not_not] at hgood
  obtain ⟨hz, ho⟩ := hgood
  by_cases hd : s.dev = .poweringOn
  · rw [step_of_write_held hs hq hw hz ho hd] at hfault
    cases hfault
  · obtain ⟨t, ht⟩ := execWord_answers a.wdata (s.taking ts rest)
    rw [step_of_write_executed hs hq hw hz ho hd, ht] at hfault
    cases hfault

end

end Machine

end Sys2Proof
end

section
/-! The statements of 20_memory.md: register reads, access faults, byte lanes, and the command port. -/

open Sys2Proof
open Sys2Proof.Machine

/-- Settles O7: a read faults where there is no readable register, a write off `CMD`; a misaligned or reserved
offset is not `CMD`. -/
theorem accessFaultsExactly : Obligations.AccessFaultsExactly := by
  intro s a rest ts hs hq
  cases hw : a.wr with
  | false =>
    rw [step_fault_iff_of_read hs hq hw]
    simp only [true_and, Bool.false_eq_true, false_and, or_false]
    exact or_left_comm
  | true =>
    have hoff : a.off.toNat % 4 ≠ 0 ∨ 0x30 ≤ a.off.toNat → a.off ≠ 0x00#6 := by
      rintro h h0
      simp [h0] at h
    rw [step_fault_iff_of_write hs hq hw]
    simp only [Bool.true_eq_false, false_and, true_and, false_or]
    tauto

/-- Settles O6: a readable register is answered, and eleven offsets have one. -/
theorem registerReadsAnswerContents : Obligations.RegisterReadsAnswerContents := by
  refine ⟨fun s off x v rest ts hs hq hv => ?_, fun s => ⟨?_, rfl, rfl, rfl, ?_⟩, fun s off => ?_⟩
  · rw [step_of_read hs hq rfl]
    exact regRead_of_register rfl hv
  · exact congrArg some (BitVec.setWidth_eq_append (by decide)).symm
  · exact congrArg some (BitVec.setWidth_eq_append (by decide)).symm
  · rw [readRegister_eq_none_iff, ne_eq, ne_eq, aligned_iff]

/-- Settles O16: from the join of the lanes. -/
theorem byteLanesCarryWord : Obligations.ByteLanesCarryWord := by
  refine ⟨ofLanes_lanes, fun w rest => ?_, fun w j hj => ?_⟩
  · have hlanes : decodeLanes (lanesOf w ++ rest) = some (decode (ofLanes (w.extractLsb' 0 8)
        (w.extractLsb' 8 8) (w.extractLsb' 16 8) (w.extractLsb' 24 8)), rest) := rfl
    rw [hlanes, ofLanes_lanes]
  · match j with
    | 0 | 1 | 2 | 3 => rfl

/-- Settles O19: from the three ways in which a 32-bit write can end. -/
theorem commandWriteExecutesItsWord : Obligations.CommandWriteExecutesItsWord := by
  intro s a rest ts hs hq hw hz
  refine ⟨fun ho => step_of_write_refused hs hq hw (.inr ho),
    fun ho hd => step_of_write_held hs hq hw hz ho hd, fun ho hd => ?_⟩
  rw [step_of_write_executed hs hq hw hz ho hd]
  exact ⟨fun i hi => execWord_of_ok hi, fun e he => execWord_of_error he⟩
end

section
/-! SUPPORT. Which words decode to a command and which are illegal (30_encoding.md R54 to R56), the raw codes as
integers (R53), and the words of the textual lines (R58). -/

namespace Sys2Proof

variable {w : Word}

/-- Every operation has a word exactly when its format is CMD, and its word decodes to it. -/
theorem commandWord_statement (i : Instr) : Laws.CommandWord.Statement i := by
  cases i with
  | configure => exact Laws.CommandWord.configure
  | powerOn => exact Laws.CommandWord.powerOn
  | powerOff => exact Laws.CommandWord.powerOff
  | start f => exact Laws.CommandWord.start f
  | stop => exact Laws.CommandWord.stop
  | tick ready raw => exact Laws.CommandWord.tick ready raw
  | poll ready => exact Laws.CommandWord.poll ready
  | winAppend v => exact Laws.CommandWord.winAppend v
  | winReplaceLast v => exact Laws.CommandWord.winReplaceLast v
  | winPopLastUndo => exact Laws.CommandWord.winPopLastUndo
  | regress => exact Laws.CommandWord.regress
  | filterReset => exact Laws.CommandWord.filterReset
  | filterStep v => exact Laws.CommandWord.filterStep v
  | updateOutputs r => exact Laws.CommandWord.updateOutputs r

theorem encode_isSome_iff {i : Instr} : (encode i).isSome = true ↔ i.format = .cmd :=
  (commandWord_statement i).1

/-- A word is the command word of an opcode and an operand when these are its two fields. -/
theorem commandWord_eq_iff {c : BitVec 8} {imm : BitVec 24} :
    commandWord c imm = w ↔ opcOf w = c ∧ immOf w = imm := by
  rw [eq_comm, word_ext, opcOf_commandWord, immOf_commandWord]

theorem encode_of_decode {i : Instr} (h : decode w = .ok i) : encode i = some w := by
  rcases decode_ok h with ⟨hc, hi, rfl⟩ | ⟨hc, hi, rfl⟩ | ⟨hc, hi, rfl⟩ | ⟨hc, rfl⟩ | ⟨hc, hi, rfl⟩
  · exact congrArg some (commandWord_eq_iff.mpr ⟨hc, hi⟩)
  · exact congrArg some (commandWord_eq_iff.mpr ⟨hc, hi⟩)
  · exact congrArg some (commandWord_eq_iff.mpr ⟨hc, hi⟩)
  · exact congrArg some (commandWord_eq_iff.mpr ⟨hc, rfl⟩)
  · exact congrArg some (commandWord_eq_iff.mpr ⟨hc, hi⟩)

/-- The decoder and the encoder are each other's inverse. -/
theorem decode_eq_ok_iff {i : Instr} : decode w = .ok i ↔ encode i = some w :=
  ⟨encode_of_decode, (commandWord_statement i).2 w⟩

/-- The one word that selects a command, by its two fields. -/
theorem decode_eq_ok_iff_fields {i : Instr} {c : BitVec 8} {imm : BitVec 24}
    (h : encode i = some (commandWord c imm)) :
    decode w = .ok i ↔ opcOf w = c ∧ immOf w = imm := by
  rw [decode_eq_ok_iff, h, Option.some_inj, commandWord_eq_iff]

theorem requireZeroImm_error_iff {imm : BitVec 24} {i : Instr} {e : DecodeError} :
    requireZeroImm imm i = .error e ↔ e = .nonzeroImm ∧ imm ≠ 0#24 := by
  unfold requireZeroImm
  split
  · simp [*]
  · simp [*, eq_comm]

/-- The opcodes of no command (R56). -/
theorem reserved_iff (c : BitVec 8) : c = 0x00#8 ∨ 0x06 ≤ c.toNat ↔
    c ≠ 0x01#8 ∧ c ≠ 0x02#8 ∧ c ≠ 0x03#8 ∧ c ≠ 0x04#8 ∧ c ≠ 0x05#8 := by
  simp only [ne_eq, ← BitVec.toNat_inj, BitVec.toNat_ofNat]
  omega

/-- Everything the decoder can refuse, with its reason. -/
theorem decode_error_iff {e : DecodeError} : decode w = .error e ↔
    e = .reservedOpcode ∧ (opcOf w = 0x00#8 ∨ 0x06 ≤ (opcOf w).toNat) ∨
    e = .nonzeroImm ∧ (opcOf w = 0x01#8 ∨ opcOf w = 0x02#8 ∨ opcOf w = 0x03#8 ∨ opcOf w = 0x05#8) ∧
      immOf w ≠ 0#24 := by
  unfold decode
  split_ifs with h1 h2 h3 h4 h5
  · simp [requireZeroImm_error_iff, h1]
  · simp [requireZeroImm_error_iff, h2]
  · simp [requireZeroImm_error_iff, h3]
  · simp [h4]
  · simp [requireZeroImm_error_iff, h5]
  · have hc := (reserved_iff (opcOf w)).mpr ⟨h1, h2, h3, h4, h5⟩
    simp [hc, h1, h2, h3, h5, eq_comm (a := DecodeError.reservedOpcode)]

namespace Machine

theorem extractLsb'_sign_bit (v : Sample) :
    (v.extractLsb' 23 1).toNat = if v.msb then 1 else 0 := by
  have hmsb : v.extractLsb' 23 1 = BitVec.ofBool v.msb := by
    ext i hi
    simp [Nat.lt_one_iff.mp hi, BitVec.msb_eq_getLsbD_last]
  rw [hmsb]
  cases v.msb <;> rfl

/-- Two codes that denote the same integer are the same code. -/
theorem sext24_inj {u v : Sample} : sext24 u = sext24 v ↔ u = v := by
  rw [sext24_eq_toInt, sext24_eq_toInt, BitVec.toInt_inj]

theorem sext24_bounds (v : Sample) : -2 ^ 23 ≤ sext24 v ∧ sext24 v ≤ 2 ^ 23 - 1 := by
  rw [sext24_eq_toInt]
  exact ⟨BitVec.le_toInt v, Int.le_sub_one_of_lt BitVec.toInt_lt⟩

theorem isSentinel_iff {v : Sample} : isSentinel v = true ↔ v = 0x7FFFFF#24 := decide_eq_true_iff

/-- The opcode and the operand of START do not overlap, so joining them is a bitwise or. -/
theorem commandWord_start {f : Nat} (hf : f < 2 ^ 24) :
    commandWord 0x04#8 (BitVec.ofNat 24 f) = 0x04000000#32 ||| BitVec.ofNat 32 f := by
  apply BitVec.eq_of_toNat_eq
  have hf' : f < 2 ^ 32 := hf.trans (by decide)
  simp only [commandWord, BitVec.toNat_append, BitVec.toNat_or, BitVec.toNat_ofNat,
    Nat.mod_eq_of_lt hf, Nat.mod_eq_of_lt hf']
  rfl

theorem assembleStart_of_le {f : Nat} (hf : f ≤ 0xFFFFFF) :
    assembleStart f = some (0x04000000#32 ||| BitVec.ofNat 32 f) := by
  have hlt : f < 2 ^ 24 := Nat.lt_succ_of_le hf
  rw [assembleStart, if_pos hlt, encode, commandWord_start hlt]

theorem milliHzOf_of_mul_eq {f : ℚ} {k : Nat} (h : f * 1000 = k) : milliHzOf f = some k := by
  simp [milliHzOf, h]

end Machine

end Sys2Proof
end

section
/-! The statements of 30_encoding.md: command words, illegal words, raw codes, and the textual lines. -/

open Sys2Proof
open Sys2Proof.Machine

/-- Settles O12: the decoder inverts the encoder, which has a word for the commands alone. -/
theorem decodeEncodeAgree : Obligations.DecodeEncodeAgree := by
  refine ⟨fun i hi => ?_, fun i hi => ?_, fun w i h => encode_of_decode h⟩
  · obtain ⟨w, hw⟩ := Option.isSome_iff_exists.mp (encode_isSome_iff.mpr hi)
    exact ⟨w, hw, decode_eq_ok_iff.mpr hw⟩
  · have hnone : encode i = none := by simpa using mt encode_isSome_iff.mp hi
    refine ⟨hnone, fun w h => ?_⟩
    rw [decode_eq_ok_iff, hnone] at h
    cases h

/-- Settles O13: a word is its opcode and operand, and each command has one word of these. -/
theorem wordsSelectCommands : Obligations.WordsSelectCommands := by
  refine fun w => ⟨decode_eq_ok_iff_fields rfl, decode_eq_ok_iff_fields rfl, decode_eq_ok_iff_fields rfl,
    fun f => ?_, decode_eq_ok_iff_fields rfl, fun i h => ?_⟩
  · rw [eq_comm (a := f)]
    exact decode_eq_ok_iff_fields rfl
  · rcases decode_ok h with ⟨-, -, hi⟩ | ⟨-, -, hi⟩ | ⟨-, -, hi⟩ | ⟨-, hi⟩ | ⟨-, -, hi⟩
    · exact .inl hi
    · exact .inr (.inl hi)
    · exact .inr (.inr (.inl hi))
    · exact .inr (.inr (.inr (.inl ⟨_, hi⟩)))
    · exact .inr (.inr (.inr (.inr hi)))

/-- Settles O14: the two reasons for which the decoder refuses a word have the words of R56's table, and an error's execution is a completion
with ILLEGAL. -/
theorem illegalWordsOnlyReport : Obligations.IllegalWordsOnlyReport := by
  refine ⟨fun w => ?_, fun s w e h => execWord_of_error h, ⟨_, rfl⟩, ⟨_, rfl⟩⟩
  simp only [decode_error_iff, exists_or, exists_eq_left]
  rfl

/-- Settles O17: `sext_24` is injective, so each integer has one code. -/
theorem rawCodesDenoteIntegers : Obligations.RawCodesDenoteIntegers := by
  intro v
  obtain ⟨hlow, hhigh⟩ := sext24_bounds v
  refine ⟨?_, hlow, hhigh, isSentinel_iff, sext24_inj (v := 0x7FFFFF#24),
    sext24_inj (v := 0x800000#24)⟩
  rw [extractLsb'_sign_bit, sext24]
  cases v.msb <;> rfl

/-- Settles O18: START's word is its opcode joined with the operand, and a frequency in hertz stands for
its millihertz. -/
theorem notationStandsForWords : Obligations.NotationStandsForWords := by
  refine ⟨rfl, rfl, rfl, rfl, fun f hf => ⟨?_, ?_⟩, fun _ => rfl, fun _ => rfl, rfl, fun _ => rfl,
    fun _ => rfl, fun f k h => ?_⟩
  · rw [assemble, assembleStart_of_le hf]
    rfl
  · rw [assemble, assembleStart_of_le hf]
    rfl
  · rw [assemble, assemble, milliHzOf_of_mul_eq h]
    rfl
end

section
/-! SUPPORT. The window buffer: what each operation answers (40_sliding_window.md R60 to R62), and what R63
needs: that no operation exceeds the capacity, that appends fill in order, and that an undo restores. -/

namespace Sys2Proof.Machine

variable {s t : State} {v x : Sample} {l : List Sample}

theorem winReplaceLast_of_empty (h : s.len = 0) :
    winReplaceLast v s = .fault (.internalFault .replaceEmpty) :=
  if_pos h

theorem winReplaceLast_of_concat (h : s.window = l ++ [x]) :
    winReplaceLast v s = .next (s.setWindow (l ++ [v]) { s.undo with kind := .none }) := by
  rcases winReplaceLast_cases v s with ⟨hnil, -⟩ | ⟨-, hnext⟩
  · simp [h] at hnil
  · rw [hnext, h, List.dropLast_concat]

theorem winPopLastUndo_of_none (h : s.undo.kind = .none) :
    winPopLastUndo s = .fault (.internalFault .undoEmpty) := by
  simp [winPopLastUndo, h]

theorem winPopLastUndo_of_grow (hw : s.window = l ++ [x]) (h : s.undo.kind = .grow) :
    winPopLastUndo s = .next (s.setWindow l { s.undo with kind := .none }) := by
  simp [winPopLastUndo, h, hw]

theorem winPopLastUndo_of_slide (hw : s.window = l ++ [x]) (h : s.undo.kind = .slide) :
    winPopLastUndo s = .next (s.setWindow (s.undo.evicted :: l) { s.undo with kind := .none }) := by
  simp [winPopLastUndo, h, hw]

/-- A full window of a positive capacity has an oldest sample. -/
theorem exists_oldest_of_full (hl : s.len = s.cfg.n) (hn : 0 < s.cfg.n) :
    ∃ w0 l, s.window = w0 :: l :=
  List.exists_cons_of_length_pos (hn.trans_eq hl.symm)

/-- An append followed by its undo leaves the window as it was; only the undo record differs (R63.4). -/
theorem winPopLastUndo_of_winAppend (v : Sample) (hl : s.len ≤ s.cfg.n) (hn : 0 < s.cfg.n) :
    ∃ u, winPopLastUndo (winAppend v s) = .next (s.setWindow s.window u) := by
  rcases hl.lt_or_eq with hlt | hfull
  · rw [winAppend_grow hlt, winPopLastUndo_of_grow rfl rfl]
    exact ⟨_, rfl⟩
  · obtain ⟨w0, l, hw⟩ := exists_oldest_of_full hfull hn
    rw [winAppend_slide hw hfull, winPopLastUndo_of_slide rfl rfl, hw]
    exact ⟨_, rfl⟩

/-- Appends that fit in the free slots put their samples behind the window, in order (R63.2). -/
theorem foldl_winAppend (l : List Sample) (s : State) (h : s.len + l.length ≤ s.cfg.n) :
    ∃ t, l.foldl (fun o v => andThen o (exec (.winAppend v))) (.next s) = .next t ∧
      t.window = s.window ++ l := by
  induction l generalizing s with
  | nil => exact ⟨s, rfl, (List.append_nil _).symm⟩
  | cons v l ih =>
    rw [List.length_cons] at h
    have hlt : s.len < s.cfg.n := by omega
    have hrest : (winAppend v s).len + l.length ≤ (winAppend v s).cfg.n := by
      rw [winAppend_len_lt hlt, winAppend_cfg]
      omega
    obtain ⟨t, ht, hw⟩ := ih (winAppend v s) hrest
    refine ⟨t, ht, ?_⟩
    rw [hw, winAppend_grow hlt, State.setWindow_window, List.append_assoc, List.singleton_append]

/-- The window does not exceed its capacity, also not after the undo that the record stands for: the undo
of a slide puts a sample back, so it needs one to remove. -/
abbrev State.WindowFits (s : State) : Prop :=
  0 < s.cfg.n ∧ s.len ≤ s.cfg.n ∧ (s.undo.kind = .slide → 0 < s.len)

theorem State.WindowOk.fits (h : s.WindowOk) (hn : 0 < s.cfg.n) : s.WindowFits := by
  obtain ⟨hle, -, -, hslide⟩ := h
  exact ⟨hn, hle, fun hk => hn.trans_eq (hslide hk).symm⟩

/-- Writing a window within the capacity, with a sample in it or without a slide to undo. -/
theorem setWindow_fits {w : List Sample} {u : Undo} (hn : 0 < s.cfg.n) (hw : w.length ≤ s.cfg.n)
    (hu : u.kind = .slide → 0 < w.length) : (s.setWindow w u).WindowFits :=
  ⟨hn, hw, hu⟩

theorem winAppend_fits (v : Sample) (h : s.WindowFits) : (winAppend v s).WindowFits := by
  obtain ⟨hn, hle, -⟩ := h
  rcases hle.lt_or_eq with hlt | hfull
  · rw [winAppend_grow hlt]
    unfold State.len at hlt
    exact setWindow_fits hn (by simpa using hlt) nofun
  · obtain ⟨w0, l, hw⟩ := exists_oldest_of_full hfull hn
    rw [winAppend_slide hw hfull]
    rw [State.len, hw] at hle
    exact setWindow_fits hn (by simpa using hle) (fun _ => by simp)

theorem winReplaceLast_fits (h : s.WindowFits) (hnext : winReplaceLast v s = .next t) :
    t.WindowFits := by
  obtain ⟨hn, hle, -⟩ := h
  rcases winReplaceLast_cases v s with ⟨-, hcase⟩ | ⟨hne, hcase⟩ <;> rw [hcase] at hnext <;>
    cases hnext
  have hpos := List.length_pos_of_ne_nil hne
  unfold State.len at hle
  exact setWindow_fits hn (by simp; omega) nofun

theorem winPopLastUndo_fits (h : s.WindowFits) (hnext : winPopLastUndo s = .next t) :
    t.WindowFits := by
  obtain ⟨hn, hle, hslide⟩ := h
  unfold State.len at hle hslide
  rcases winPopLastUndo_next hnext with ⟨-, rfl⟩ | ⟨hk, rfl⟩
  · exact setWindow_fits hn (by simp; omega) nofun
  · have hpos := hslide hk
    exact setWindow_fits hn (by simp; omega) nofun

/-- The outputs, `MODE` and `BACKUP` are not of the window buffer. -/
theorem updateOutputs_fits (r : RegressionResult) : (updateOutputs r s).WindowFits ↔ s.WindowFits :=
  Iff.rfl

theorem suspect_fits : (suspect s).WindowFits ↔ s.WindowFits := Iff.rfl

theorem rollback_fits (h : s.WindowFits) (hnext : rollback v s = .next t) : t.WindowFits := by
  unfold rollback at hnext
  obtain ⟨s1, hpop, hnext⟩ := andThen_next.mp hnext
  obtain ⟨s2, hreplace, hnext⟩ := andThen_next.mp hnext
  cases hnext
  exact winAppend_fits v (winReplaceLast_fits (winPopLastUndo_fits h hpop) hreplace)

/-- FILTER_STEP writes the window by the buffer's operations alone (R74 to R78). -/
theorem filterStep_fits (h : s.WindowFits) (hnext : filterStep v s = .next t) : t.WindowFits := by
  have happend := winAppend_fits v h
  cases hm : s.mode with
  | filling =>
    simp only [filterStep, hm, fillStep] at hnext
    split at hnext
    · obtain ⟨r, -, hnext⟩ := withRegress_next hnext
      cases hnext
      exact (updateOutputs_fits r).mpr happend
    · cases hnext
      exact happend
  | tracking =>
    simp only [filterStep, hm, trackStep] at hnext
    obtain ⟨r, -, hnext⟩ := withRegress_next hnext
    cases hnext
    have hpublished := (updateOutputs_fits r).mpr happend
    split
    · exact suspect_fits.mpr hpublished
    · exact hpublished
  | rechecking =>
    simp only [filterStep, hm, recheckStep] at hnext
    obtain ⟨r, -, hnext⟩ := withRegress_next hnext
    split at hnext
    · cases hnext
      exact (updateOutputs_fits r).mpr happend
    · obtain ⟨s2, hroll, hnext⟩ := andThen_next.mp hnext
      obtain ⟨r2, -, hnext⟩ := withRegress_next hnext
      cases hnext
      have hrolled := rollback_fits happend hroll
      exact (updateOutputs_fits r2).mpr hrolled

theorem filterReset_fits (hn : 0 < s.cfg.n) : s.filterReset.WindowFits :=
  ⟨hn, Nat.zero_le _, nofun⟩

/-- Of the commands and events, only START and an accepted tick write the window. -/
theorem transition_fits {i : Instr} (h : Transition s i t) (hs : s.WindowFits) : t.WindowFits := by
  cases h with
  | start => exact filterReset_fits hs.1
  | tickAccepted raw _ _ _ hstep => exact filterStep_fits (s := s.pulseRd) hs hstep
  | nothing | report | configure | powerOn | powerOff | stop | pollReady | tickDropped => exact hs

/-- Every operation that answers a next state keeps the window within its capacity (R63.1). -/
theorem exec_fits {i : Instr} (h : exec i s = .next t) (hs : s.WindowFits) : t.WindowFits := by
  cases i with
  | configure | powerOn | powerOff | start f | stop | tick ready raw | poll ready =>
    exact transition_fits (exec_transition (by nofun) h) hs
  | winAppend v => cases h; exact winAppend_fits v hs
  | winReplaceLast v => exact winReplaceLast_fits hs h
  | winPopLastUndo => exact winPopLastUndo_fits hs h
  | regress =>
    obtain ⟨r, -, h⟩ := withRegress_next h
    cases h
    exact hs
  | filterReset => cases h; exact filterReset_fits hs.1
  | filterStep v => exact filterStep_fits hs h
  | updateOutputs r => cases h; exact (updateOutputs_fits r).mpr hs

end Sys2Proof.Machine
end

section
/-! The statements of 40_sliding_window.md: the three operations of the window buffer, and its four properties. -/

open Sys2Proof
open Sys2Proof.Machine

/-- Settles O36: the two phases of the append. -/
theorem winAppendResult : Obligations.WinAppendResult :=
  fun _ _ => ⟨fun hl => congrArg _ (winAppend_grow hl),
    fun _ _ hw hl => congrArg _ (winAppend_slide hw hl)⟩

/-- Settles O37: a window is empty or has a newest sample. -/
theorem winReplaceLastResult : Obligations.WinReplaceLastResult :=
  fun _ _ => ⟨winReplaceLast_of_empty, fun _ _ => winReplaceLast_of_concat⟩

/-- Settles O38: the three kinds of the undo record. -/
theorem winPopLastUndoResult : Obligations.WinPopLastUndoResult :=
  fun _ => ⟨winPopLastUndo_of_none, fun _ _ => winPopLastUndo_of_grow,
    fun _ _ => winPopLastUndo_of_slide⟩

/-- Settles O39: `WindowFits` is kept by every operation, and the appends are computed from the two phases. -/
theorem windowBufferProperties : Obligations.WindowBufferProperties := by
  refine ⟨fun i s t hok hn h => ?_, fun s l hempty hl _ => ?_, fun s v hl hn => ?_,
    fun s v hl hn => ?_⟩
  · obtain ⟨-, hle, -⟩ := exec_fits h (hok.fits hn)
    exact hle
  · have hlen : s.len + l.length ≤ s.cfg.n := by simp [State.len, hempty, hl]
    obtain ⟨t, ht, hw⟩ := foldl_winAppend l s hlen
    rw [hempty, List.nil_append] at hw
    exact ⟨t, ht, by rw [State.len, hw, hl], hw⟩
  · obtain ⟨w0, l, hw⟩ := exists_oldest_of_full hl hn
    refine ⟨winAppend v s, rfl, ?_⟩
    rw [winAppend_slide hw hl, State.setWindow_window, hw, List.drop_one, List.tail_cons]
  · obtain ⟨u, hu⟩ := winPopLastUndo_of_winAppend v hl hn
    exact ⟨_, hu, rfl, rfl⟩
end

section
/-! SUPPORT. The regression: what REGRESS answers (41_regression.md R64), the fit of a full window as sums over
the rationals (R64 to R67), the fit of a line and of a raised window (R69), and the bounds of R70. -/

namespace Sys2Proof.Machine

variable {p : Params} {s : State} {l : List Sample} {y z : Nat → Int} {m k : ℚ}

/-- The fit of a full window, read from its list of samples. -/
abbrev windowFit (p : Params) (l : List Sample) : RegressionResult := fit p.n (offsetX p) (sampleAt l)

theorem exec_regress_short (h : s.len ≤ 2) : exec .regress s = .next (s.deliver zeroResult) := by
  have hzero : regress s = .ok zeroResult := if_pos h
  simp [exec, execRegress, withRegress, hzero]

theorem exec_regress_partial (h3 : 3 ≤ s.len) (hlt : s.len < s.cfg.n) :
    exec .regress s = .fault (.internalFault .partialWindow) := by
  have hfault : regress s = .error (.internalFault .partialWindow) := by
    rw [regress, if_neg (by omega), if_pos hlt]
  simp [exec, execRegress, withRegress, hfault]

theorem fit_w_eq_windowFit (hl : s.len = s.cfg.n) :
    fit s.cfg.n (offsetX s.cfg) s.w = windowFit s.cfg s.window :=
  fit_congr (w_eq_sampleAt hl)

theorem exec_regress_full (hp : s.cfg.Legal) (hl : s.len = s.cfg.n) :
    exec .regress s = .next (s.deliver (windowFit s.cfg s.window)) := by
  rw [← fit_w_eq_windowFit hl]
  exact withRegress_full hp hl _

/-- R64's slope and intercept, over the library's sums. -/
theorem fit_line_eq_sums (n : Nat) (x y : Nat → Int) :
    (fit n x y).a = (n * (∑ i ∈ Finset.range n, (x i : ℚ) * y i) -
        (∑ i ∈ Finset.range n, (x i : ℚ)) * ∑ i ∈ Finset.range n, (y i : ℚ)) /
      (n * (∑ i ∈ Finset.range n, (x i : ℚ) ^ 2) - (∑ i ∈ Finset.range n, (x i : ℚ)) ^ 2) ∧
    (fit n x y).b = ((∑ i ∈ Finset.range n, (x i : ℚ) ^ 2) * (∑ i ∈ Finset.range n, (y i : ℚ)) -
        (∑ i ∈ Finset.range n, (x i : ℚ)) * ∑ i ∈ Finset.range n, (x i : ℚ) * y i) /
      (n * (∑ i ∈ Finset.range n, (x i : ℚ) ^ 2) - (∑ i ∈ Finset.range n, (x i : ℚ)) ^ 2) := by
  simp only [fit, sumTo_eq_sum, pow_two]
  push_cast
  exact ⟨rfl, rfl⟩

theorem fit_residual_eq_sum (n : Nat) (x y : Nat → Int) :
    (fit n x y).e =
      1 / n * ∑ i ∈ Finset.range n, |(y i : ℚ) - ((fit n x y).a * x i + (fit n x y).b)| := by
  simp only [fit_residual, sumTo_eq_sum, absQ_eq_abs]

/-- `X[i] = i - (N - 1) / 2` without rounding, `N` being odd (R6). -/
theorem cast_offsetX (h : p.Legal) (i : Nat) : (offsetX p i : ℚ) = i - ((p.n : ℚ) - 1) / 2 := by
  rw [offsetX, ← two_mul_halfWidth_add_one h]
  push_cast
  ring

theorem sum_cast_offsetX (h : p.Legal) : ∑ i ∈ Finset.range p.n, (offsetX p i : ℚ) = 0 := by
  rw [← sumTo_eq_sum, ← cast_sumTo, sum_offsetX h, Int.cast_zero]

theorem sum_cast_offsetX_sq (h : p.Legal) :
    ∑ i ∈ Finset.range p.n, (offsetX p i : ℚ) ^ 2 = sxx p := by
  simp only [pow_two, ← Int.cast_mul]
  rw [← sumTo_eq_sum, ← cast_sumTo, sum_offsetX_sq h, Int.cast_natCast]

theorem fit_slope_eq_sum (h : p.Legal) (y : Nat → Int) :
    (fit p.n (offsetX p) y).a = (∑ i ∈ Finset.range p.n, (offsetX p i : ℚ) * y i) / sxx p := by
  rw [fit_slope h, sumTo_eq_sum]
  push_cast
  rfl

theorem fit_intercept_eq_sum (h : p.Legal) (y : Nat → Int) :
    (fit p.n (offsetX p) y).b = (∑ i ∈ Finset.range p.n, (y i : ℚ)) / p.n := by
  rw [fit_intercept h, sumTo_eq_sum, Int.cast_sum]

/-- The first `N` samples of `y` lie on the line of slope `m` and intercept `k`. -/
abbrev OnLine (p : Params) (y : Nat → Int) (m k : ℚ) : Prop :=
  ∀ i, i < p.n → (y i : ℚ) = m * offsetX p i + k

theorem sum_offset_mul_of_onLine (h : p.Legal) (hy : OnLine p y m k) :
    ∑ i ∈ Finset.range p.n, (offsetX p i : ℚ) * y i = m * sxx p := by
  calc ∑ i ∈ Finset.range p.n, (offsetX p i : ℚ) * y i
      = ∑ i ∈ Finset.range p.n, (m * (offsetX p i : ℚ) ^ 2 + k * offsetX p i) :=
        Finset.sum_congr rfl fun i hi => by rw [hy i (Finset.mem_range.mp hi)]; ring
    _ = m * sxx p := by
        rw [Finset.sum_add_distrib, ← Finset.mul_sum, ← Finset.mul_sum, sum_cast_offsetX h,
          sum_cast_offsetX_sq h, mul_zero, add_zero]

theorem sum_of_onLine (h : p.Legal) (hy : OnLine p y m k) :
    ∑ i ∈ Finset.range p.n, (y i : ℚ) = k * p.n := by
  rw [Finset.sum_congr rfl fun i hi => hy i (Finset.mem_range.mp hi), Finset.sum_add_distrib,
    ← Finset.mul_sum, sum_cast_offsetX h]
  simp [mul_comm]

theorem regressionResult_ext {r q : RegressionResult} (ha : r.a = q.a) (hb : r.b = q.b)
    (he : r.e = q.e) : r = q := by
  cases r
  cases q
  rw [RegressionResult.mk.injEq]
  exact ⟨ha, hb, he⟩

/-- The fit of samples on a line is that line (R69.1). -/
theorem fit_of_onLine (h : p.Legal) (hy : OnLine p y m k) :
    fit p.n (offsetX p) y = { a := m, b := k, e := 0 } := by
  have hn : (p.n : ℚ) ≠ 0 := by have := h.2.1; positivity
  have hs : (sxx p : ℚ) ≠ 0 := by have := sxx_pos h; positivity
  have ha : (fit p.n (offsetX p) y).a = m := by
    rw [fit_slope_eq_sum h, sum_offset_mul_of_onLine h hy, mul_div_cancel_right₀ _ hs]
  have hb : (fit p.n (offsetX p) y).b = k := by
    rw [fit_intercept_eq_sum h, sum_of_onLine h hy, mul_div_cancel_right₀ _ hn]
  have he : (fit p.n (offsetX p) y).e = 0 := by
    rw [fit_residual_eq_sum, ha, hb, Finset.sum_eq_zero, mul_zero]
    intro i hi
    rw [hy i (Finset.mem_range.mp hi), sub_self, abs_zero]
  exact regressionResult_ext ha hb he

theorem fit_residual_nonneg (n : Nat) (x y : Nat → Int) : 0 ≤ (fit n x y).e := by
  rw [fit_residual_eq_sum]
  positivity

/-- A zero residual leaves no sample off the fitted line (R69.4). -/
theorem onLine_of_fit_residual_eq_zero (h : p.Legal) (he : (fit p.n (offsetX p) y).e = 0) :
    OnLine p y (fit p.n (offsetX p) y).a (fit p.n (offsetX p) y).b := by
  have hn : 1 / (p.n : ℚ) ≠ 0 := by have := h.2.1; positivity
  rw [fit_residual_eq_sum, mul_eq_zero_iff_left hn,
    Finset.sum_eq_zero_iff_of_nonneg fun _ _ => abs_nonneg _] at he
  exact fun i hi => sub_eq_zero.mp (abs_eq_zero.mp (he i (Finset.mem_range.mpr hi)))

theorem fit_residual_eq_zero_iff (h : p.Legal) :
    (fit p.n (offsetX p) y).e = 0 ↔ ∃ m k : ℚ, OnLine p y m k := by
  constructor
  · exact fun he => ⟨_, _, onLine_of_fit_residual_eq_zero h he⟩
  · rintro ⟨m, k, hy⟩
    rw [fit_of_onLine h hy]

/-- Raising every sample by `c` raises the intercept alone (R69.5). -/
theorem fit_add_const (h : p.Legal) {c : Int} (hz : ∀ i, i < p.n → z i = y i + c) :
    fit p.n (offsetX p) z = { fit p.n (offsetX p) y with b := (fit p.n (offsetX p) y).b + c } := by
  have hn : (p.n : ℚ) ≠ 0 := by have := h.2.1; positivity
  rw [fit_congr hz]
  have ha : (fit p.n (offsetX p) fun i => y i + c).a = (fit p.n (offsetX p) y).a := by
    rw [fit_slope_eq_sum h, fit_slope_eq_sum h]
    push_cast
    simp only [mul_add, Finset.sum_add_distrib, ← Finset.sum_mul, sum_cast_offsetX h, zero_mul, add_zero]
  have hb : (fit p.n (offsetX p) fun i => y i + c).b = (fit p.n (offsetX p) y).b + c := by
    rw [fit_intercept_eq_sum h, fit_intercept_eq_sum h]
    push_cast
    rw [Finset.sum_add_distrib, add_div]
    simp [hn]
  have he : (fit p.n (offsetX p) fun i => y i + c).e = (fit p.n (offsetX p) y).e := by
    rw [fit_residual_eq_sum, fit_residual_eq_sum, ha, hb]
    push_cast
    simp only [← add_assoc, add_sub_add_right_eq_sub]
  exact regressionResult_ext ha hb he

/-! The bounds of R70, at the largest window: 31 samples, `H = 15` and `SXX = 2480`. -/

theorem sxx_le (h : p.Legal) : sxx p ≤ 2480 := by
  obtain ⟨-, -, hn, -⟩ := h
  have h12 : (p.n - 1) * p.n * (p.n + 1) ≤ 30 * 31 * 32 := by gcongr <;> omega
  unfold sxx
  omega

theorem denE_le (h : p.Legal) : denE p ≤ 2383280 := by
  have hn := h.2.2.1
  have hs := sxx_le h
  calc denE p ≤ 31 * 31 * 2480 := by unfold denE; gcongr
    _ = 2383280 := rfl

theorem abs_offsetX_le (h : p.Legal) {i : Nat} (hi : i < p.n) : |offsetX p i| ≤ 15 := by
  have hX := offsetX_bounds h hi
  have hN := two_mul_halfWidth_add_one h
  exact abs_le.mpr (by omega)

theorem abs_windowSum_le_width (h : p.Legal) (hl : l.length = p.n) : |windowSum l| ≤ 31 * 2 ^ 23 := by
  have hb := abs_windowSum_le hl
  omega

theorem abs_weightedSum_le_width (h : p.Legal) (l : List Sample) :
    |weightedSum p l| ≤ 240 * 2 ^ 23 := by
  have hb := abs_weightedSum_le h l
  have hn : (p.n : Int) ^ 2 ≤ 31 ^ 2 := by
    have := h.2.2.1
    gcongr
    omega
  omega

/-- `R_i` from the window's sums (R67). -/
theorem residualNum_sampleAt (hl : l.length = p.n) (i : Nat) :
    residualNum p (sampleAt l) i = p.n * sxx p * sampleAt l i - p.n * weightedSum p l * offsetX p i -
      sxx p * windowSum l := by
  rw [← sumTo_sampleAt, hl]
  rfl

theorem abs_residualNum_lt (h : p.Legal) (hl : l.length = p.n) {i : Nat} (hi : i < p.n) :
    |residualNum p (sampleAt l) i| < 2 ^ 42 := by
  have hn : (p.n : Int) ≤ 31 := by exact_mod_cast h.2.2.1
  have hs : (sxx p : Int) ≤ 2480 := by exact_mod_cast sxx_le h
  have hW := abs_sampleAt_le l i
  have hX := abs_offsetX_le h hi
  have hSy := abs_windowSum_le_width h hl
  have hSxy := abs_weightedSum_le_width h l
  rw [residualNum_sampleAt hl]
  calc |(p.n * sxx p * sampleAt l i - p.n * weightedSum p l * offsetX p i - sxx p * windowSum l : Int)|
      ≤ p.n * sxx p * |sampleAt l i| + p.n * |weightedSum p l| * |offsetX p i| +
          sxx p * |windowSum l| := by
        refine (abs_sub _ _).trans (add_le_add ((abs_sub _ _).trans ?_) ?_) <;> simp [abs_mul]
    _ ≤ 31 * 2480 * 2 ^ 23 + 31 * (240 * 2 ^ 23) * 15 + 2480 * (31 * 2 ^ 23) := by gcongr
    _ < 2 ^ 42 := by norm_num

theorem residualSum_lt (h : p.Legal) (hl : l.length = p.n) : residualSum p l < 2 ^ 47 := by
  have hn := h.2.2.1
  have hb : |residualSum p l| ≤ p.n * 2 ^ 42 := abs_sumTo_le _ _ _ fun i hi => by
    rw [absZ_eq_abs, abs_abs]
    exact (abs_residualNum_lt h hl hi).le
  have hle := le_abs_self (residualSum p l)
  omega

end Sys2Proof.Machine
end

section
/-! The statements of 41_regression.md: the least-squares fit, its closed forms, the thresholds, the five
properties, and the widths of the exact integers. -/

open Sys2Proof
open Sys2Proof.Machine

/-- Settles O40: the model's fit is R64's formulas, and the offsets of R6 make `D = N * SXX`. -/
theorem regressIsLeastSquaresFit : Obligations.RegressIsLeastSquaresFit := by
  refine fun s hp => ⟨exec_regress_short, exec_regress_partial,
    fun hl => ⟨_, exec_regress_full hp hl, fun x y m hx hy hm => ?_⟩⟩
  obtain rfl : x = fun i => (offsetX s.cfg i : ℚ) := funext fun i => (hx i).trans (cast_offsetX hp i).symm
  obtain rfl : y = fun i => (sampleAt s.window i : ℚ) := funext hy
  subst hm
  obtain ⟨ha, hb⟩ := fit_line_eq_sums s.cfg.n (offsetX s.cfg) (sampleAt s.window)
  refine ⟨?_, ha, hb, fit_residual_eq_sum ..⟩
  rw [sum_cast_offsetX hp, sum_cast_offsetX_sq hp]
  have hD : (0 : ℚ) < (s.cfg.n * sxx s.cfg : Nat) := mod_cast den_pos hp
  simpa using hD

/-- Settles O41: the closed forms of the fit, with the sums of the window's list. -/
theorem regressClosedForms : Obligations.RegressClosedForms := by
  intro s hp hl
  refine ⟨_, _, exec_regress_full hp hl, rfl, fit_slope hp _, ?_, ?_⟩
  · rw [fit_intercept hp, ← hl, State.len, sumTo_sampleAt]
  · rw [fit_meanAbsResidual hp, denE, eNum, sumTo_eq_sum]
    simp only [absZ_eq_abs, residualNum_sampleAt hl]

/-- Settles O42: the residual is `E_NUM / DEN_E` with a positive denominator, and each rule compares it
strictly. -/
theorem thresholdsCompareExactly : Obligations.ThresholdsCompareExactly := by
  intro s t r hp hl h hr
  rw [exec_regress_full hp hl] at h
  cases h
  cases hr
  have hsuspect := suspectRule_fit hp hl
  have haccept := acceptRule_fit hp hl
  rw [fit_w_eq_windowFit hl] at hsuspect haccept
  exact ⟨fun T => ⟨residual_lt_iff hp _ T, lt_residual_iff hp _ T⟩,
    decide_eq_true_iff.trans (residual_lt_iff hp _ _), hsuspect, haccept⟩

/-- Settles O43: a constant window is a line of slope 0, and the rest are the laws of the fit. -/
theorem regressProperties : Obligations.RegressProperties := by
  refine ⟨fun s hl => ⟨_, exec_regress_short hl, rfl⟩, fun s hp hl => ?_⟩
  refine ⟨_, _, exec_regress_full hp hl, rfl, fun m k => fit_of_onLine hp, fun c hc => ?_,
    fit_residual_nonneg _ _ _, fit_residual_eq_zero_iff hp, fun u c hcfg hlen hc => ?_⟩
  · exact fit_of_onLine hp fun i hi => by simp [hc i hi]
  · rw [← hcfg] at hlen hp
    refine ⟨_, exec_regress_full hp hlen, congrArg some ?_⟩
    rw [windowFit, hcfg]
    exact fit_add_const (hcfg ▸ hp) hc

/-- Settles O44: from the bounds on the samples, the offsets and the derived constants. -/
theorem intermediateWidths : Obligations.IntermediateWidths := by
  refine fun p l hp hl => ⟨?_, abs_weightedSum_le_width hp l, fun i hi => abs_residualNum_lt hp hl hi,
    residualSum_lt hp hl, fun T hT => ?_⟩
  · exact (abs_windowSum_le_width hp hl).trans (by norm_num)
  · have hlt : T * denE p < 2 ^ 32 * 2383280 :=
      Nat.mul_lt_mul_of_lt_of_le hT (denE_le hp) (by norm_num)
    exact ⟨hlt, hlt.trans (by norm_num)⟩
end

section
/-! SUPPORT. The drift_filter: what UPDATE_OUTPUTS publishes for any regression result
(42_drift_filter.md R73), what a tick hands to the filter (R79.1), what can change the filter's state
(R79.3), and how ticks fill an empty window (R75, R106). -/

namespace Sys2Proof.Machine

variable {s t : State} {v : Sample}

theorem countDraw_of_full (hl : s.len = s.cfg.n) : s.countDraw = s := by
  rw [State.countDraw, if_neg hl.not_lt]

/-- On a full window UPDATE_OUTPUTS reads no free slot: it publishes the sums of the list (R73). -/
theorem updateOutputs_of_full (r : RegressionResult) (hl : s.len = s.cfg.n) :
    updateOutputs r s = s.setOutputs (BitVec.ofInt 32 (windowSum s.window))
      (BitVec.ofInt 32 (weightedSum s.cfg s.window)) (stableRule s.cfg r.e) := by
  have hw := w_eq_sampleAt hl
  have hmean : sumTo s.cfg.n s.w = windowSum s.window := by
    rw [sumTo_congr hw, ← hl, State.len, sumTo_sampleAt]
  have htrend : sumTo s.cfg.n (fun i => offsetX s.cfg i * s.w i) = weightedSum s.cfg s.window :=
    sumTo_congr fun i hi => by rw [hw i hi]
  rw [updateOutputs, hmean, htrend]
  exact countDraw_of_full hl

theorem execTick_not_ready (raw : Sample) (s : State) : execTick false raw s = .next s := by
  simp [execTick]

theorem execTick_sentinel (ha : s.armed = true) : execTick true sentinel s = .next s.pulseRd := by
  simp [execTick, ha, isSentinel]

theorem execTick_accepted (ha : s.armed = true) (hv : v ≠ sentinel) :
    execTick true v s = filterStep v s.pulseRd := by
  simp [execTick, ha, isSentinel, hv]

/-- The recheck answers, and ends in Tracking whether it accepts or rolls back (R78, R79.1). -/
theorem filterStep_ends_rechecking (v : Sample) (hp : s.cfg.Legal) (hw : s.WindowOk)
    (hm : s.mode = .rechecking) : ∃ t, filterStep v s = .next t ∧ t.mode = .tracking := by
  obtain ⟨hl, w0, m, x, hwin⟩ : s.len = s.cfg.n ∧ ∃ w0 m x, s.window = w0 :: (m ++ [x]) := by
    simpa [hm] using filter_phases hp hw
  refine ⟨_, filterStep_rechecking hp hm hl hwin, ?_⟩
  split <;> rfl

theorem SameFilter.refl (s : State) : SameFilter s s := ⟨rfl, rfl, rfl, rfl, rfl, rfl, rfl⟩

/-- A transition changes the filter's state only as a successful START, or as a tick that reads a sample. -/
theorem transition_filter {i : Instr} (h : Transition s i t) :
    SameFilter s t ∨
    (∃ f, i = .start f ∧ s.dev = .ready ∧ t.result = .ok ∧ t.mode = .filling) ∨
    (∃ raw, i = .tick true raw ∧ s.armed = true ∧ raw ≠ sentinel) := by
  cases h with
  | nothing | report | configure | powerOn | powerOff | stop | pollReady | tickDropped =>
    exact .inl (SameFilter.refl s)
  | start f hd => exact .inr (.inl ⟨f, rfl, hd, rfl, rfl⟩)
  | tickAccepted raw _ ha hr => exact .inr (.inr ⟨raw, rfl, ha, hr⟩)

theorem format_of_decode {w : Word} {i : Instr} (h : decode w = .ok i) : i.format = .cmd :=
  encode_isSome_iff.mp (by simp [decode_eq_ok_iff.mp h])

/-- A command word changes the filter's state only as a START that succeeds. -/
theorem execWord_filter {w : Word} (h : execWord w s = .next t) :
    SameFilter s t ∨
    ∃ f, decode w = .ok (.start f) ∧ s.dev = .ready ∧ t.result = .ok ∧ t.mode = .filling := by
  rcases execWord_cases w s with ⟨i, hdec, -, h'⟩ | ⟨e, -, h'⟩ <;> rw [h'] at h
  · have hcmd := format_of_decode hdec
    have htr := exec_transition (by simp [hcmd]) h
    rcases transition_filter htr with hsame | ⟨f, rfl, hstart⟩ | ⟨raw, rfl, -⟩
    · exact .inl hsame
    · exact .inr ⟨f, hdec, hstart⟩
    · cases hcmd
  · cases h
    exact .inl (SameFilter.refl s)

/-- An accepted sample that finds a free slot is appended, and no Rechecking begins (R75). -/
theorem filterStep_appending (hp : s.cfg.Legal) (hw : s.WindowOk) (hl : s.len < s.cfg.n) :
    ∃ t, filterStep v s = .next t ∧ t.window = s.window ++ [v] ∧ t.mode ≠ .rechecking := by
  obtain ⟨-, hmode, -⟩ := hw
  have hm := hmode.mp hl
  rcases Nat.lt_or_eq_of_le (Nat.succ_le_of_lt hl) with hlt | hlast
  · exact ⟨_, filterStep_growing hm hlt, rfl, by simp [hm]⟩
  · exact ⟨_, filterStep_priming hp hm hlast, rfl, nofun⟩

/-- A step whose turn is a tick with an accepted sample, while the window has a free slot. -/
theorem step_appending {ts : List Turn} (hs : s.Inv) (ha : s.armed = true) (hl : s.len < s.cfg.n)
    (hv : v ≠ sentinel) (hsched : s.schedule = .timer true v :: ts) :
    ∃ t, step s = .next t ∧ t.window = s.window ++ [v] ∧ t.mode ≠ .rechecking ∧
      t.armed = true ∧ t.schedule = ts ∧ t.cfg = s.cfg := by
  obtain ⟨hp, -, hw, -⟩ := id hs
  obtain ⟨t, hstep, hwin, hm⟩ :=
    filterStep_appending (s := (s.quiet.setSchedule ts).pulseRd) (v := v) hp hw hl
  obtain ⟨hcfg, -, harmed, -, -, -, -, hschedule⟩ := filterStep_outside hstep
  refine ⟨t, ?_, hwin, hm, harmed.trans ha, hschedule, hcfg⟩
  rw [step_of_schedule_cons hsched]
  exact (execTick_accepted (s := s.quiet.setSchedule ts) ha hv).trans hstep

/-- Ticks with accepted samples that fit in the free slots put them behind the window, in order
(R63.2, R75). -/
theorem runSteps_appending {ts : List Turn} (l : List Sample) (s : State) (hs : s.Inv)
    (ha : s.armed = true) (hm : s.mode ≠ .rechecking) (hl : s.len + l.length ≤ s.cfg.n)
    (hsent : sentinel ∉ l) (hsched : s.schedule = l.map (fun v => .timer true v) ++ ts) :
    ∃ t, runSteps l.length s = .next t ∧ t.Inv ∧ t.window = s.window ++ l ∧
      t.mode ≠ .rechecking ∧ t.schedule = ts ∧ t.cfg = s.cfg := by
  induction l generalizing s with
  | nil => exact ⟨s, rfl, hs, (List.append_nil _).symm, hm, hsched, rfl⟩
  | cons v l ih =>
    rw [List.length_cons] at hl
    obtain ⟨hv, hrest⟩ := not_or.mp (mt List.mem_cons.mpr hsent)
    obtain ⟨u, hstep, hwin, hmode, harmed, hschedule, hcfg⟩ :=
      step_appending hs ha (by omega) (Ne.symm hv) hsched
    have hfit : u.len + l.length ≤ u.cfg.n := by
      rw [State.len, hwin, hcfg, List.length_append, List.length_singleton]
      unfold State.len at hl
      omega
    obtain ⟨t, hrun, hinv, hwin', hmode', hschedule', hcfg'⟩ :=
      ih u (step_inv hstep hs) harmed hmode hfit hrest hschedule
    refine ⟨t, ?_, hinv, ?_, hmode', hschedule', hcfg'.trans hcfg⟩
    · rw [List.length_cons, runSteps, hstep, andThen_of_next, hrun]
    · rw [hwin', hwin, List.append_assoc, List.singleton_append]

/-- A block with a full window that is not Rechecking is Tracking. -/
theorem tracking_of_full (hw : s.WindowOk) (hl : s.len = s.cfg.n) (hm : s.mode ≠ .rechecking) :
    s.mode = .tracking := by
  obtain ⟨-, hmode, -⟩ := hw
  have hfill : s.mode ≠ .filling := mt hmode.mpr hl.not_lt
  cases h : s.mode with
  | filling => exact absurd h hfill
  | tracking => rfl
  | rechecking => exact absurd h hm

end Sys2Proof.Machine
end

section
/-! The statements of 42_drift_filter.md: FILTER_RESET, UPDATE_OUTPUTS, the three modes of FILTER_STEP, what
changes the filter, and the first window. -/

open Sys2Proof
open Sys2Proof.Machine

/-- Settles O46: a full window has no free slot to read, so no draw is counted either. -/
theorem updateOutputsResult : Obligations.UpdateOutputsResult :=
  fun _ r hl => congrArg _ (updateOutputs_of_full r hl)

/-- Settles O48: the two phases of Filling. -/
theorem fillStepResult : Obligations.FillStepResult :=
  fun _ _ hm hp => ⟨filterStep_growing hm, filterStep_priming hp hm⟩

/-- Settles O49: the two branches of the outlier-suspect rule. -/
theorem trackStepResult : Obligations.TrackStepResult := by
  intro s v w0 w1 l hm hp hl hw
  have hstep := filterStep_tracking (v := v) hp hm hl hw
  refine ⟨fun hsus => ?_, fun hsus => ?_⟩
  · rw [if_pos hsus] at hstep
    exact hstep
  · rw [if_neg hsus, ← hm] at hstep
    exact hstep

/-- Settles O50: the two branches of the recheck. -/
theorem recheckStepResult : Obligations.RecheckStepResult := by
  intro s v w1 x m hm hp hl hw
  have hstep := filterStep_rechecking (v := v) hp hm hl hw
  refine ⟨fun hacc => ?_, fun hrej => ?_⟩
  · rw [if_pos hacc] at hstep
    exact hstep
  · rw [if_neg hrej.not_gt] at hstep
    exact hstep

/-- Settles O53: a delivered tick is a FILTER_STEP exactly for a ready sample other than the sentinel. -/
theorem recheckingLastsOneAcceptedSample : Obligations.RecheckingLastsOneAcceptedSample := by
  intro s raw ⟨hp, _, hw, _⟩ ha hm
  refine ⟨fun hraw => ?_, ⟨_, execTick_sentinel ha, SameFilter.refl s⟩,
    ⟨_, execTick_not_ready raw s, SameFilter.refl s⟩⟩
  obtain ⟨t, hstep, hmode⟩ := filterStep_ends_rechecking (s := s.pulseRd) raw hp hw hm
  exact ⟨t, (execTick_accepted ha hraw).trans hstep, hmode⟩

/-- Settles O54: by what a step can do, turn by turn. -/
theorem filterChangesOnlyByAcceptedSampleOrReset :
    Obligations.FilterChangesOnlyByAcceptedSampleOrReset := by
  intro s t h hne
  have unchanged (hsame : SameFilter s t) {P : Prop} : P := absurd hsame hne
  rcases step_next h with ⟨-, rfl⟩ | ⟨ts, -, -, rfl⟩ | ⟨ts, a, rest, v, -, -, -, -, rfl⟩ |
    ⟨ts, a, rest, -, -, -, -, rfl⟩ | ⟨ts, a, rest, hs, hq, hwr, -, -, h⟩ |
    ⟨ts, ready, raw, hs, h⟩ | ⟨ts, ready, -, h⟩ | ⟨ts, hs, -⟩
  · exact unchanged (SameFilter.refl s)
  · exact unchanged (SameFilter.refl s)
  · exact unchanged (SameFilter.refl s)
  · exact unchanged (SameFilter.refl s)
  · rcases execWord_filter h with hsame | ⟨f, hdec, hd, hres, hmode⟩
    · exact unchanged hsame
    · exact .inr (.inl ⟨a, f, ts, rest, hs, hq, hwr, hdec, hd, hres, hmode⟩)
  · rcases transition_filter (exec_transition (i := .tick ready raw) nofun h) with
      hsame | ⟨_, ⟨⟩, -⟩ | ⟨_, ⟨⟩, ha, hr⟩
    · exact unchanged hsame
    · exact .inl ⟨raw, ts, hs, ha, hr⟩
  · rcases transition_filter (exec_transition (i := .poll ready) nofun h) with
      hsame | ⟨_, ⟨⟩, -⟩ | ⟨_, ⟨⟩, -⟩
    exact unchanged hsame
  · exact .inr (.inr ⟨ts, hs⟩)

/-- Settles O59: the ticks append their samples, and the invariant says what a primed block publishes. -/
theorem firstWindowIsPublished : Obligations.FirstWindowIsPublished := by
  intro s l ts hs ha hempty hl hsent hsched
  obtain ⟨hp, -, ⟨-, hmode, -⟩, -⟩ := id hs
  have hlen : s.len = 0 := by rw [State.len, hempty, List.length_nil]
  have hm : s.mode = .filling := hmode.mp (by have := hp.2.1; omega)
  obtain ⟨t, hrun, ⟨-, -, hw, -, -, -, houtputs⟩, hwin, hrec, hschedule, hcfg⟩ :=
    runSteps_appending l s hs ha (by simp [hm]) (by omega) hsent hsched
  rw [hempty, List.nil_append] at hwin
  have htrack : t.mode = .tracking := tracking_of_full hw (by rw [State.len, hwin, hcfg, hl]) hrec
  obtain ⟨hmean, htrend, hstable⟩ := houtputs (by simp [htrack])
  rw [hwin] at hmean htrend hstable
  rw [hcfg] at htrend hstable
  refine ⟨t, hl ▸ hrun, hwin, htrack, hschedule, ?_, ?_, hstable⟩
  · rw [hmean, windowSum_held hp hl]
  · rw [htrend, weightedSum_held hp]

/-- Settles O45: FILTER_RESET is R72's seven assignments. -/
theorem filterResetResult : Obligations.FilterResetResult :=
  fun _ => rfl

/-- Settles O47: UPDATE_OUTPUTS writes the three outputs and counts the draw, whatever the window. -/
theorem updateOutputsAlwaysCompletes : Obligations.UpdateOutputsAlwaysCompletes :=
  fun s r => ⟨updateOutputs r s, rfl, rfl, rfl⟩
end

section
/-! SUPPORT. The acquisition_scheduler: what each command answers once it is accepted, and what the two events
answer (43_scheduler.md R80 to R86), that these fill the cells of R87's table, and what an accepted sample
leaves in the window (42_drift_filter.md R74). -/

namespace Sys2Proof.Machine

variable {s : State} {k : State → State} {f : MilliHz} {v : Sample}

theorem onCommandPort_held (hd : s.dev = .poweringOn) : onCommandPort s k = .next s := if_pos hd

theorem onCommandPort_accepted {u : State} (hd : s.dev ≠ .poweringOn) (hk : k s = u) :
    onCommandPort s k = .next u := by
  rw [onCommandPort, if_neg hd, hk]

theorem exec_configure_uninitialized (hd : s.dev = .uninitialized) :
    exec .configure s = .next (((s.setDev .configured).pulseCfg).complete .ok) :=
  onCommandPort_accepted (by simp [hd]) (if_pos hd)

theorem exec_configure_noop (hd : s.dev ≠ .uninitialized) (hp : s.dev ≠ .poweringOn) :
    exec .configure s = .next (s.complete .noop) :=
  onCommandPort_accepted hp (if_neg hd)

theorem exec_powerOn_pending (hd : s.dev = .configured ∨ s.dev = .poweredOff) :
    exec .powerOn s = .next (s.setDev .poweringOn) :=
  onCommandPort_accepted (fun h => by simp [h] at hd) (if_pos hd)

theorem exec_powerOn_noop (hd : s.dev = .uninitialized ∨ s.dev = .ready ∨ s.dev = .periodic) :
    exec .powerOn s = .next (s.complete .noop) :=
  onCommandPort_accepted (fun h => by simp [h] at hd)
    (if_neg fun h => by rcases h with h | h <;> simp [h] at hd)

theorem exec_powerOff_powered (hd : s.dev = .ready ∨ s.dev = .periodic) :
    exec .powerOff s = .next (((s.setArmed false).setDev .poweredOff).complete .ok) :=
  onCommandPort_accepted (fun h => by simp [h] at hd) (if_pos hd)

theorem exec_powerOff_noop
    (hd : s.dev = .uninitialized ∨ s.dev = .configured ∨ s.dev = .poweredOff) :
    exec .powerOff s = .next (s.complete .noop) :=
  onCommandPort_accepted (fun h => by simp [h] at hd)
    (if_neg fun h => by rcases h with h | h <;> simp [h] at hd)

theorem exec_start_alreadyRunning (hd : s.dev = .periodic) :
    exec (.start f) s = .next (s.complete .alreadyRunning) :=
  onCommandPort_accepted (by simp [hd]) (if_pos hd)

theorem exec_start_notReady (hper : s.dev ≠ .periodic) (hd : s.dev ≠ .ready)
    (hp : s.dev ≠ .poweringOn) : exec (.start f) s = .next (s.complete .notReady) :=
  onCommandPort_accepted hp (by rw [startEffect, if_neg hper, if_pos hd])

theorem exec_start_badFrequency (hd : s.dev = .ready) (hf : frequencyInRange s.cfg f = false) :
    exec (.start f) s = .next (s.complete .badFrequency) :=
  onCommandPort_accepted (by simp [hd]) (by simp [startEffect, hd, hf])

theorem exec_start_ok (hd : s.dev = .ready) (hf : frequencyInRange s.cfg f = true) :
    exec (.start f) s =
      .next ((((s.filterReset.setFreq f).setDev .periodic).setArmed true).complete .ok) :=
  onCommandPort_accepted (by simp [hd]) (by simp [startEffect, hd, hf])

theorem exec_stop_running (hd : s.dev = .periodic) :
    exec .stop s = .next (((s.setArmed false).setDev .ready).complete .ok) :=
  onCommandPort_accepted (by simp [hd]) (if_pos hd)

theorem exec_stop_noop (hd : s.dev ≠ .periodic) (hp : s.dev ≠ .poweringOn) :
    exec .stop s = .next (s.complete .noop) :=
  onCommandPort_accepted hp (if_neg hd)

theorem exec_poll_ready (hd : s.dev = .poweringOn) :
    exec (.poll true) s = .next ((s.setDev .ready).complete .ok) :=
  if_pos ⟨hd, rfl⟩

theorem exec_poll_not_ready (s : State) : exec (.poll false) s = .next s :=
  if_neg (by simp)

theorem execTick_disarmed (ready : Bool) (v : Sample) (ha : s.armed = false) :
    execTick ready v s = .next s :=
  if_pos ha

theorem frequencyInRange_eq_decide (p : Params) (f : MilliHz) :
    frequencyInRange p f = decide (0 < f.toNat ∧ f.toNat ≤ p.maxRate) := by
  rw [Bool.eq_iff_iff, frequencyInRange_iff, decide_eq_true_iff]

theorem frequencyInRange_eq_false_iff {p : Params} :
    frequencyInRange p f = false ↔ f.toNat = 0 ∨ p.maxRate < f.toNat := by
  rw [← Bool.not_eq_true, frequencyInRange_iff]
  omega

/-- START's word, with the operand widened to the word and joined by a bitwise or, decodes to it (R52, R54). -/
theorem decode_start_word (f : MilliHz) :
    decode (0x04000000#32 ||| f.setWidth 32) = .ok (.start f) := by
  have hword := commandWord_start f.isLt
  rw [BitVec.ofNat_toNat, BitVec.ofNat_toNat, BitVec.setWidth_eq] at hword
  rw [decode_eq_ok_iff, ← hword, encode]

/-- What a cell of R87's table says of the outcome `o` of a command from `s`. -/
abbrev FillsCell (s : State) (o : Result) (c : Cell) : Prop :=
  ∃ t, o = .next t ∧ t.dev = c.1 ∧ t.result = c.2.getD s.result

theorem fillsCell_of_held (hd : s.dev = .poweringOn) :
    FillsCell s (onCommandPort s k) (.poweringOn, none) :=
  ⟨s, onCommandPort_held hd, hd, rfl⟩

/-- A completion with a code and no other effect leaves `DEV` in its row. -/
theorem fillsCell_of_report {o : Result} {d : Dev} {c : ResultCode} (h : o = .next (s.complete c))
    (hd : s.dev = d) : FillsCell s o (d, some c) :=
  ⟨s.complete c, h, hd, rfl⟩

theorem exec_configure_cell (s : State) :
    FillsCell s (exec .configure s) (configureColumn s.dev) := by
  cases hd : s.dev with
  | uninitialized => exact ⟨_, exec_configure_uninitialized hd, rfl, rfl⟩
  | poweringOn => exact fillsCell_of_held hd
  | configured | ready | periodic | poweredOff =>
    exact fillsCell_of_report (exec_configure_noop (by simp [hd]) (by simp [hd])) hd

theorem exec_powerOn_cell (s : State) : FillsCell s (exec .powerOn s) (powerOnColumn s.dev) := by
  cases hd : s.dev with
  | configured | poweredOff => exact ⟨_, exec_powerOn_pending (by simp [hd]), rfl, rfl⟩
  | poweringOn => exact fillsCell_of_held hd
  | uninitialized | ready | periodic =>
    exact fillsCell_of_report (exec_powerOn_noop (by simp [hd])) hd

theorem exec_powerOff_cell (s : State) :
    FillsCell s (exec .powerOff s) (powerOffColumn s.dev) := by
  cases hd : s.dev with
  | ready | periodic => exact ⟨_, exec_powerOff_powered (by simp [hd]), rfl, rfl⟩
  | poweringOn => exact fillsCell_of_held hd
  | uninitialized | configured | poweredOff =>
    exact fillsCell_of_report (exec_powerOff_noop (by simp [hd])) hd

theorem exec_start_cell (f : MilliHz) (s : State) :
    FillsCell s (exec (.start f) s) (startColumn (frequencyInRange s.cfg f) s.dev) := by
  cases hd : s.dev with
  | ready =>
    cases hf : frequencyInRange s.cfg f with
    | true => exact ⟨_, exec_start_ok hd hf, rfl, rfl⟩
    | false => exact fillsCell_of_report (exec_start_badFrequency hd hf) hd
  | periodic => exact fillsCell_of_report (exec_start_alreadyRunning hd) hd
  | poweringOn => exact fillsCell_of_held hd
  | uninitialized | configured | poweredOff =>
    exact fillsCell_of_report (exec_start_notReady (by simp [hd]) (by simp [hd]) (by simp [hd])) hd

theorem exec_stop_cell (s : State) : FillsCell s (exec .stop s) (stopColumn s.dev) := by
  cases hd : s.dev with
  | periodic => exact ⟨_, exec_stop_running hd, rfl, rfl⟩
  | poweringOn => exact fillsCell_of_held hd
  | uninitialized | configured | ready | poweredOff =>
    exact fillsCell_of_report (exec_stop_noop (by simp [hd]) (by simp [hd])) hd

/-- `t` is `s` after it took the sample `v`: the newest of a window that grew by one or stayed full, with no
free value drawn. -/
abbrev TookSample (v : Sample) (s t : State) : Prop :=
  t.window.getLast? = some v ∧ t.len = min s.cfg.n (s.len + 1) ∧ t.freeDraws = s.freeDraws

theorem holding_tookSample {w : List Sample} {u : Undo} {m : Mode} {b : Sample}
    (hv : w.getLast? = some v) (hw : w.length = s.cfg.n) (hl : s.cfg.n ≤ s.len + 1) :
    TookSample v s (s.holding w u m b) :=
  ⟨hv, hw.trans (min_eq_left hl).symm, rfl⟩

/-- FILTER_STEP answers a next state in each of its phases, and its sample is then the newest (R75 to R78). -/
theorem filterStep_tookSample (v : Sample) (hp : s.cfg.Legal) (hw : s.WindowOk) :
    ∃ t, filterStep v s = .next t ∧ TookSample v s t := by
  rcases filter_phases hp hw with ⟨hm, hl⟩ | ⟨hm, hl⟩ | ⟨hm, hl, w0, w1, l, hwin⟩ |
    ⟨hm, hl, w0, m, x, hwin⟩
  · refine ⟨_, filterStep_growing hm hl, List.getLast?_concat, ?_, rfl⟩
    rw [State.setWindow_len, List.length_append, List.length_singleton, min_eq_right hl.le]
    rfl
  · refine ⟨_, filterStep_priming hp hm hl, holding_tookSample List.getLast?_concat ?_ hl.ge⟩
    rw [← hl, List.length_append, List.length_singleton]
    rfl
  · refine ⟨_, filterStep_tracking hp hm hl hwin, ?_⟩
    have hlast : (w1 :: (l ++ [v])).getLast? = some v := List.getLast?_concat (l := w1 :: l)
    have hlen : (w1 :: (l ++ [v])).length = s.cfg.n := by simp [← hl, State.len, hwin]
    split
    · exact holding_tookSample hlast hlen (by omega)
    · exact holding_tookSample hlast hlen (by omega)
  · refine ⟨_, filterStep_rechecking hp hm hl hwin, ?_⟩
    have hlast (y : Sample) : (m ++ [y, v]).getLast? = some v := by simp
    have hlen (y : Sample) : (m ++ [y, v]).length = s.cfg.n := by simp [← hl, State.len, hwin]
    split
    · exact holding_tookSample (hlast x) (hlen x) (by omega)
    · exact holding_tookSample (hlast s.backup) (hlen s.backup) (by omega)

end Sys2Proof.Machine
end

section
/-! The statements of 43_scheduler.md: the five commands, the two events, the lifecycle table, and the
completion of an accepted sample. -/

open Sys2Proof
open Sys2Proof.Machine

/-- Settles O28: column by column, in each of the six states of the device; `ARMED` agrees with `DEV` where
TICK's column is read. -/
theorem lifecycleTableHolds : Obligations.LifecycleTableHolds := by
  refine ⟨fun s f i c h => ?_, fun s hs ready raw => ⟨fun hd => ?_, fun hd hraw => ?_⟩,
    fun s hd => ⟨_, exec_poll_ready hd, rfl, rfl⟩⟩
  · rcases h with ⟨rfl, rfl⟩ | ⟨rfl, rfl⟩ | ⟨rfl, rfl⟩ | ⟨rfl, rfl⟩ | ⟨rfl, rfl⟩
    · exact exec_configure_cell s
    · exact exec_powerOn_cell s
    · exact exec_powerOff_cell s
    · rw [← frequencyInRange_eq_decide]
      exact exec_start_cell f s
    · exact exec_stop_cell s
  · exact execTick_disarmed ready raw (hs.disarmed hd)
  · exact execTick_accepted (hs.1.mpr hd) hraw

/-- Settles O51: the tick is a FILTER_STEP, which takes the sample in every phase that the invariant admits. -/
theorem acceptedTickCompletes : Obligations.AcceptedTickCompletes := by
  intro s raw ⟨hp, _, hw, _⟩ ha hraw
  obtain ⟨t, hstep, hlast, hlen, hdraws⟩ := filterStep_tookSample (s := s.pulseRd) raw hp hw
  exact ⟨t, (execTick_accepted ha hraw).trans hstep, hlast, hlen, filterStep_outside hstep, hdraws⟩

/-- Settles O21: the first CONFIGURE and the later ones. -/
theorem configureResult : Obligations.ConfigureResult :=
  ⟨by decide, fun _ => ⟨exec_configure_uninitialized, exec_configure_noop⟩⟩

/-- Settles O22: the configured states with power off, where the command waits for a POLL, and the rest. -/
theorem powerOnResult : Obligations.PowerOnResult :=
  ⟨by decide, fun _ => ⟨exec_powerOn_pending, exec_powerOn_noop⟩⟩

/-- Settles O23: the poll that finds the source ready, and the one that does not. -/
theorem pollResult : Obligations.PollResult :=
  fun s => ⟨exec_poll_ready, fun _ => exec_poll_not_ready s⟩

/-- Settles O24: the states with power on, and those with power off. -/
theorem powerOffResult : Obligations.PowerOffResult :=
  ⟨by decide, fun _ => ⟨exec_powerOff_powered, exec_powerOff_noop⟩⟩

/-- Settles O25: the checks in R95.3's order; a frequency is bad exactly when it is not in range. -/
theorem startResult : Obligations.StartResult :=
  fun _ f => ⟨decode_start_word f, exec_start_alreadyRunning, exec_start_notReady,
    fun hd hf => exec_start_badFrequency hd (frequencyInRange_eq_false_iff.mpr hf),
    fun hd hpos hle => exec_start_ok hd (frequencyInRange_iff.mpr ⟨hpos, hle⟩)⟩

/-- Settles O26: the running acquisition, and the states without one. -/
theorem stopResult : Obligations.StopResult :=
  ⟨by decide, fun _ => ⟨exec_stop_running, exec_stop_noop⟩⟩

/-- Settles O27: the four ways in which a firing of the timer can end. -/
theorem tickResult : Obligations.TickResult :=
  fun s raw => ⟨fun ready => execTick_disarmed ready raw, fun _ => execTick_not_ready raw s,
    execTick_sentinel, execTick_accepted⟩
end

section
/-! SUPPORT. From a state with the invariant every turn is safe: an internal fault needs a window that disagrees
with its mode (60_exceptions.md R93, 40_sliding_window.md R59). -/

namespace Sys2Proof.Machine

variable {s : State}

/-- A read answers or is an access fault, whatever the offset and the size (R37, R39). -/
theorem regRead_safe (a : HostAccess) (s : State) : Result.Safe (regRead a s) := by
  by_cases hfault : a.size ≠ 2#2 ∨ s.readRegister a.off = none
  · exact .inr (regRead_fault_iff.mpr hfault)
  · obtain ⟨hz, hnone⟩ := not_or.mp hfault
    obtain ⟨v, hv⟩ := Option.ne_none_iff_exists'.mp hnone
    exact .inl ⟨_, regRead_of_register (not_not.mp hz) hv⟩

/-- The host's turn is safe from every state: it reads, or writes a word that no decoding can make fault. -/
theorem step_safe_of_host {ts : List Turn} (hs : s.schedule = .host :: ts) : Result.Safe (step s) := by
  cases hq : s.hostQueue with
  | nil =>
    rw [step_of_schedule_cons hs]
    exact .inl ⟨_, hostTurn_of_no_access hq⟩
  | cons a rest =>
    cases hw : a.wr with
    | false =>
      rw [step_of_read hs hq hw]
      exact regRead_safe a _
    | true =>
      by_cases hbad : a.size ≠ 2#2 ∨ a.off ≠ 0x00#6
      · exact .inr (step_of_write_refused hs hq hw hbad)
      simp only [not_or, not_not] at hbad
      obtain ⟨hz, ho⟩ := hbad
      by_cases hd : s.dev = .poweringOn
      · exact .inl ⟨_, step_of_write_held hs hq hw hz ho hd⟩
      · rw [step_of_write_executed hs hq hw hz ho hd]
        exact .inl (execWord_answers a.wdata _)

/-- A firing of the timer answers a next state where the window agrees with its mode. -/
theorem execTick_answers (ready : Bool) (raw : Sample) (hp : s.cfg.Legal) (hw : s.WindowOk) :
    ∃ t, execTick ready raw s = .next t := by
  rcases execTick_cases ready raw s with ⟨-, h⟩ | ⟨-, -, -, h⟩ | ⟨-, -, -, h⟩
  · exact ⟨_, h⟩
  · exact ⟨_, h⟩
  · obtain ⟨t, ht, -⟩ := filterStep_tookSample (s := s.pulseRd) raw hp hw
    exact ⟨t, h.trans ht⟩

theorem execPoll_answers (ready : Bool) (s : State) : ∃ t, execPoll ready s = .next t := by
  rcases execPoll_cases ready s with ⟨-, -, h⟩ | ⟨-, h⟩
  · exact ⟨_, h⟩
  · exact ⟨_, h⟩

theorem step_safe (h : s.Inv) : Result.Safe (step s) := by
  obtain ⟨hp, -, hw, -⟩ := h
  cases hs : s.schedule with
  | nil => exact .inl ⟨_, step_of_schedule_nil hs⟩
  | cons u ts =>
    cases u with
    | host => exact step_safe_of_host hs
    | timer ready raw =>
      rw [step_of_schedule_cons hs]
      exact .inl (execTick_answers (s := s.quiet.setSchedule ts) ready raw hp hw)
    | poller ready =>
      rw [step_of_schedule_cons hs]
      exact .inl (execPoll_answers ready _)
    | blockReset =>
      rw [step_of_schedule_cons hs]
      exact .inl ⟨_, rfl⟩

end Sys2Proof.Machine
end

section
/-! SUPPORT. When the strobes to the SampleSource pulse (60_exceptions.md R100). -/

namespace Sys2Proof.Machine

variable {s t : State}

theorem srcPwr_iff (s : State) :
    s.srcPwr = true ↔ s.dev = .poweringOn ∨ s.dev = .ready ∨ s.dev = .periodic := by
  unfold State.srcPwr
  cases s.dev <;> simp

/-- `src_rd` and `src_cfg` are driven as before. -/
abbrev SameStrobes (s t : State) : Prop :=
  t.signals.srcRd = s.signals.srcRd ∧ t.signals.srcCfg = s.signals.srcCfg

/-- Only the first CONFIGURE and a tick that reads a sample drive a strobe. -/
theorem transition_strobes {i : Instr} (h : Transition s i t) :
    SameStrobes s t ∨ (i = .configure ∧ s.dev = .uninitialized) ∨ ∃ raw, i = .tick true raw := by
  cases h with
  | nothing | report | powerOn | powerOff | start | stop | pollReady => exact .inl ⟨rfl, rfl⟩
  | configure hd => exact .inr (.inl ⟨rfl, hd⟩)
  | tickDropped => exact .inr (.inr ⟨_, rfl⟩)
  | tickAccepted raw => exact .inr (.inr ⟨raw, rfl⟩)

/-- A delivered ready tick makes one `readRaw()` call, the sentinel's too; no other tick drives anything (R86). -/
theorem execTick_signals {ready : Bool} {raw : Sample} (h : execTick ready raw s = .next t) :
    t.signals = { s.signals with srcRd := s.signals.srcRd || (s.armed && ready) } := by
  rcases execTick_cases ready raw s with ⟨hoff, h'⟩ | ⟨ha, hr, -, h'⟩ | ⟨ha, hr, -, h'⟩ <;> rw [h'] at h
  · cases h
    rcases hoff with hoff | hoff <;> simp [hoff]
  · cases h
    simp [ha, hr]
  · obtain ⟨-, -, -, -, -, hsignals, -⟩ := filterStep_outside h
    simp [hsignals, ha, hr]

theorem execPoll_strobes {ready : Bool} (h : execPoll ready s = .next t) : SameStrobes s t := by
  rcases transition_strobes (execPoll_transition h) with hsame | ⟨⟨⟩, -⟩ | ⟨_, ⟨⟩⟩
  exact hsame

/-- A command word pulses `src_cfg` exactly as the first CONFIGURE, and never `src_rd` (R80). -/
theorem execWord_strobes {w : Word} (h : execWord w s = .next t) :
    t.signals.srcRd = s.signals.srcRd ∧
    (t.signals.srcCfg = true ↔
      s.signals.srcCfg = true ∨ (s.dev = .uninitialized ∧ decode w = .ok .configure)) := by
  rcases execWord_cases w s with ⟨i, hdec, -, h'⟩ | ⟨e, hdec, h'⟩ <;> rw [h'] at h
  · by_cases hfirst : i = .configure ∧ s.dev = .uninitialized
    · obtain ⟨rfl, hd⟩ := hfirst
      rw [exec_configure_uninitialized hd] at h
      cases h
      simp [hd, hdec]
    · have hcmd := format_of_decode hdec
      rcases transition_strobes (exec_transition (by simp [hcmd]) h) with
        ⟨hrd, hcfg⟩ | h1 | ⟨raw, rfl⟩
      · refine ⟨hrd, ?_⟩
        rw [hcfg, hdec, Except.ok.injEq, and_comm, or_iff_left hfirst]
      · exact absurd h1 hfirst
      · cases hcmd
  · cases h
    simp [hdec]

end Sys2Proof.Machine
end

section
/-! The statements of 60_exceptions.md: no internal fault on any run, the result codes, and the signals to the
SampleSource. -/

open Sys2Proof
open Sys2Proof.Machine

/-- Settles O57: each step is safe, and keeps the invariant that makes the next one safe. -/
theorem noSequenceFaultsInternally : Obligations.NoSequenceFaultsInternally := by
  intro k
  induction k with
  | zero => exact fun s _ => .inl ⟨s, rfl⟩
  | succ k ih =>
    intro s hs
    rw [runSteps]
    rcases step_safe hs with ⟨t, hstep⟩ | hfault
    · rw [hstep, andThen_of_next]
      exact ih t (step_inv hstep hs)
    · rw [hfault]
      exact .inr rfl

/-- Settles O32: of what acknowledges a write, all but a report completes with `OK`; no internal operation
acknowledges. -/
theorem failureCodesChangeResultOnly : Obligations.FailureCodesChangeResultOnly := by
  refine ⟨fun i s t hidle h hack hfail => ?_, rfl, fun c => decide_eq_true_iff⟩
  have silent (hreply : t.signals.reply = s.signals.reply) {P : Prop} : P :=
    nomatch (hidle.symm.trans hreply.symm).trans hack
  by_cases hi : i.format = .internal
  · rcases exec_internal hi h with ⟨-, -, -, -, -, -, hsignals, -⟩ | ⟨-, r, rfl⟩
    · exact silent (congrArg Signals.reply hsignals)
    · exact silent rfl
  cases exec_transition hi h with
  | report => rfl
  | nothing | powerOn | tickDropped => exact silent rfl
  | configure | powerOff | start | stop | pollReady => exact absurd rfl hfail
  | tickAccepted raw _ _ _ hstep =>
    obtain ⟨-, -, -, -, -, hsignals, -⟩ := filterStep_outside hstep
    exact silent ((congrArg Signals.reply hsignals).trans rfl)

/-- Settles O35: the strobes fall at the start of a step; then turn by turn, by what the step can have done. -/
theorem sourceSignals : Obligations.SourceSignals := by
  refine ⟨srcPwr_iff, fun s t h => ?_⟩
  rcases step_next h with ⟨hs, rfl⟩ | ⟨ts, hs, hq, rfl⟩ | ⟨ts, a, rest, v, hs, hq, hw, -, rfl⟩ |
    ⟨ts, a, rest, hs, -, -, hd, rfl⟩ | ⟨ts, a, rest, hs, hq, hw, -, -, h⟩ |
    ⟨ts, ready, raw, hs, h⟩ | ⟨ts, ready, hs, h⟩ | ⟨ts, hs, rfl⟩
  · simp [Signals.quiet, hs]
  · simp [Signals.quiet, hs, hq]
  · simp [Signals.quiet, hs, hq, hw]
  · simp [Signals.quiet, hs, hd]
  · obtain ⟨hrd, hcfg⟩ := execWord_strobes h
    simp [Signals.quiet, hrd, hcfg, hs, hq, hw]
  · simp [Signals.quiet, execTick_signals h, hs]
  · obtain ⟨hrd, hcfg⟩ := execPoll_strobes h
    simp [Signals.quiet, hrd, hcfg, hs]
  · simp [Signals.quiet, hs]
end

section
/-! SUPPORT. The blocking POWER_ON (70_reset_and_hazards.md R108): while no poll finds the SampleSource ready and no
block reset comes, a step at most answers a read. -/

namespace Sys2Proof.Machine

variable {s t u : State}

theorem SameFilter.trans (h1 : SameFilter s t) (h2 : SameFilter t u) : SameFilter s u := by
  obtain ⟨a1, a2, a3, a4, a5, a6, a7⟩ := h1
  obtain ⟨b1, b2, b3, b4, b5, b6, b7⟩ := h2
  exact ⟨b1.trans a1, b2.trans a2, b3.trans a3, b4.trans a4, b5.trans a5, b6.trans a6, b7.trans a7⟩

/-- What every step keeps holds after every run. -/
theorem runSteps_keeps {P : State → Prop} (hstep : ∀ s t, P s → step s = .next t → P t) (k : Nat)
    (hs : P s) (h : runSteps k s = .next t) : P t := by
  induction k generalizing s with
  | zero => cases h; exact hs
  | succ k ih =>
    obtain ⟨u, hu, hrun⟩ := andThen_next.mp h
    exact ih (hstep s u hs hu) hrun

/-- The device is powering on, and nothing to come can end that. -/
abbrev State.Hanging (s : State) : Prop :=
  s.dev = .poweringOn ∧ s.armed = false ∧ ∀ v ∈ s.schedule, v ≠ .poller true ∧ v ≠ .blockReset

/-- `RESULT`, `FREQ` and the filter are the same, and a write that was the host's oldest access is still held
with all accesses behind it. -/
abbrev StandsStill (s t : State) : Prop :=
  t.result = s.result ∧ SameFilter s t ∧ t.freq = s.freq ∧
  ∀ a rest, s.hostQueue = a :: rest → a.wr = true → t.hostQueue = s.hostQueue

theorem StandsStill.refl (s : State) : StandsStill s s :=
  ⟨rfl, SameFilter.refl s, rfl, fun _ _ _ _ => rfl⟩

theorem StandsStill.trans (h1 : StandsStill s t) (h2 : StandsStill t u) : StandsStill s u := by
  obtain ⟨hresult, hfilter, hfreq, hqueue⟩ := h1
  obtain ⟨hresult', hfilter', hfreq', hqueue'⟩ := h2
  refine ⟨hresult'.trans hresult, hfilter.trans hfilter', hfreq'.trans hfreq, fun a rest hq hw => ?_⟩
  have hheld := hqueue a rest hq hw
  exact (hqueue' a rest (hheld.trans hq) hw).trans hheld

/-- Everything a step of a hanging block can do: its turn passes, or a read is answered. -/
theorem step_of_hanging (hs : s.Hanging) (h : step s = .next t) :
    ∃ ts, ts ⊆ s.schedule ∧ (t = s.taking ts s.hostQueue ∨
      ∃ a rest v, s.hostQueue = a :: rest ∧ a.wr = false ∧ t = (s.taking ts rest).answer v) := by
  obtain ⟨hdev, harmed, hturns⟩ := hs
  have later {v : Turn} {ts : List Turn} (hv : s.schedule = v :: ts) : ts ⊆ s.schedule :=
    hv ▸ List.subset_cons_self v ts
  rcases step_next h with ⟨-, rfl⟩ | ⟨ts, hsched, -, rfl⟩ | ⟨ts, a, rest, v, hsched, hq, hw, -, rfl⟩ |
    ⟨ts, a, rest, hsched, -, -, -, rfl⟩ | ⟨ts, a, rest, -, -, -, -, hd, -⟩ |
    ⟨ts, ready, raw, hsched, h⟩ | ⟨ts, ready, hsched, h⟩ | ⟨ts, hsched, -⟩
  · exact ⟨s.schedule, List.Subset.refl _, .inl rfl⟩
  · exact ⟨ts, later hsched, .inl rfl⟩
  · exact ⟨ts, later hsched, .inr ⟨a, rest, v, hq, hw, rfl⟩⟩
  · exact ⟨ts, later hsched, .inl rfl⟩
  · exact absurd hdev hd
  · cases (execTick_disarmed (s := s.quiet.setSchedule ts) ready raw harmed).symm.trans h
    exact ⟨ts, later hsched, .inl rfl⟩
  · obtain rfl : ready = false := by simpa using (hturns (.poller ready) (by simp [hsched])).1
    cases (exec_poll_not_ready _).symm.trans h
    exact ⟨ts, later hsched, .inl rfl⟩
  · exact absurd rfl (hturns .blockReset (by simp [hsched])).2

theorem step_keeps_hanging (hs : s.Hanging) (h : step s = .next t) : t.Hanging := by
  obtain ⟨ts, hts, hcases⟩ := step_of_hanging hs h
  obtain ⟨hdev, harmed, hturns⟩ := hs
  rcases hcases with rfl | ⟨a, rest, v, -, -, rfl⟩
  · exact ⟨hdev, harmed, fun v hv => hturns v (hts hv)⟩
  · exact ⟨hdev, harmed, fun v hv => hturns v (hts hv)⟩

theorem step_of_hanging_standsStill (hs : s.Hanging) (h : step s = .next t) : StandsStill s t := by
  obtain ⟨ts, -, rfl | ⟨a, rest, v, hq, hw, rfl⟩⟩ := step_of_hanging hs h
  · exact StandsStill.refl s
  · refine ⟨rfl, SameFilter.refl s, rfl, fun a' rest' hq' hw' => ?_⟩
    cases hq.symm.trans hq'
    exact absurd hw' (by simp [hw])

end Sys2Proof.Machine
end

section
/-! SUPPORT. STOP and POWER_OFF disarm the timer (70_reset_and_hazards.md R111), and STATUS after a block reset
(R104). -/

namespace Sys2Proof.Machine

variable {s t : State}

/-- A command that is not held has its effect. -/
theorem eq_of_onCommandPort {k : State → State} (hd : s.dev ≠ .poweringOn)
    (h : onCommandPort s k = .next t) : t = k s := by
  rcases onCommandPort_next h with ⟨hheld, -⟩ | ⟨-, heffect⟩
  · exact absurd hheld hd
  · exact heffect

theorem stopEffect_disarmed (hs : s.LifecycleOk) : (stopEffect s).armed = false := by
  rcases stopEffect_cases s with ⟨-, h⟩ | ⟨hd, h⟩ <;> rw [h]
  · rfl
  · exact hs.disarmed hd

theorem powerOffEffect_disarmed (hs : s.LifecycleOk) : (powerOffEffect s).armed = false := by
  rcases powerOffEffect_cases s with ⟨-, h⟩ | ⟨hd, h⟩ <;> rw [h]
  · rfl
  · exact hs.disarmed (mt .inr hd)

/-- A running block that is reset shows the STATUS of a new one. -/
@[simp] theorem State.blockReset_statusWord (s : State) : s.blockReset.statusWord = 0#32 :=
  resetOf_statusWord s.cfg

end Sys2Proof.Machine
end

section
/-! The statements of 70_reset_and_hazards.md: the blocking POWER_ON, no tick after STOP or POWER_OFF, and block
reset. -/

open Sys2Proof
open Sys2Proof.Machine

/-- Settles O58: the timer is disarmed under the invariant, so the block hangs; every step keeps it hanging, and
stands still. -/
theorem powerOnHangs : Obligations.PowerOnHangs := by
  intro k s t hs hdev hturns h
  obtain ⟨-, hlife, -⟩ := hs
  have hhang : s.Hanging := ⟨hdev, hlife.disarmed (by simp [hdev]), hturns⟩
  obtain ⟨⟨hdev', -⟩, hstill⟩ : t.Hanging ∧ StandsStill s t :=
    runSteps_keeps (P := fun u => u.Hanging ∧ StandsStill s u)
      (fun u v ⟨hu, hsu⟩ huv =>
        ⟨step_keeps_hanging hu huv, hsu.trans (step_of_hanging_standsStill hu huv)⟩)
      k ⟨hhang, StandsStill.refl s⟩ h
  exact ⟨hdev', hstill⟩

/-- Settles O34: the accepted command leaves the timer disarmed, and then no tick is delivered. -/
theorem noTickAfterStopOrPowerOff : Obligations.NoTickAfterStopOrPowerOff := by
  intro s t i hs hdev hi h
  have harmed : t.armed = false := by
    rcases hi with rfl | rfl
    · rw [eq_of_onCommandPort hdev h]
      exact stopEffect_disarmed hs
    · rw [eq_of_onCommandPort hdev h]
      exact powerOffEffect_disarmed hs
  exact ⟨harmed, fun ready raw => execTick_disarmed ready raw harmed⟩

/-- Settles O4: the reset state is written field by field; STATUS packs those fields. -/
theorem blockResetValues : Obligations.BlockResetValues := by
  rintro p _ rfl
  exact ⟨rfl, rfl, rfl, rfl, rfl, rfl, rfl, rfl, rfl, rfl, rfl, rfl, rfl, resetOf_statusWord p,
    rfl, rfl, rfl⟩

/-- Settles O5: the turn is a block reset, which keeps the parameters, the accesses and the turns left. -/
theorem blockResetOfRunningBlock : Obligations.BlockResetOfRunningBlock := by
  rintro _ s t ts rfl hsched h
  rw [step_of_schedule_cons hsched] at h
  cases h
  exact ⟨rfl, rfl, rfl, rfl, rfl, rfl, rfl, rfl, rfl, rfl, rfl, rfl, rfl, State.blockReset_statusWord _,
    rfl, rfl, rfl, rfl, rfl⟩
end

section
/-! The sample words of 30_encoding.md R58 and 95_test_vectors.md section 3.5. -/

open Sys2Proof

/-- Settles O15: a legal sample is the word that the encoder gives its command; an illegal one carries an operand
where none is allowed, or an opcode past the last command's. -/
theorem sampleWordsDecode : Obligations.SampleWordsDecode := by
  have hstop : decode 0x05000001#32 = .error .nonzeroImm :=
    decode_error_iff.mpr (.inr ⟨rfl, .inr (.inr (.inr rfl)), by decide⟩)
  have hconfigure : decode 0x01800000#32 = .error .nonzeroImm :=
    decode_error_iff.mpr (.inr ⟨rfl, .inl rfl, by decide⟩)
  have hreserved : decode 0x06000000#32 = .error .reservedOpcode :=
    decode_error_iff.mpr (.inl ⟨rfl, .inr (by decide)⟩)
  exact ⟨decode_eq_ok_iff.mpr rfl, decode_eq_ok_iff.mpr rfl, decode_eq_ok_iff.mpr rfl,
    decode_eq_ok_iff.mpr rfl, decode_eq_ok_iff.mpr rfl, decode_eq_ok_iff.mpr rfl,
    hstop, hconfigure, hreserved⟩
end
